-- ==== Sys2Proof/Word.lean ====
section
/-! DEFINITION. The widths in which the ET810 counts: ticks of the timescale, stamps, edge counts and the bytes of the command
port (spec/00_scope.md, Units and Capacities). -/

namespace Sys2Proof

/-- One byte of an SPI frame (R164). -/
abbrev Byte := BitVec 8

/-- A value of the 48-bit timescale, an edge tick, an expiry tick or a deadline (R1). -/
abbrev Tick := BitVec 48

/-- A 60-bit stamp in stamp units, 4096 of them to a coarse tick (R11, R12). -/
abbrev Stamp := BitVec 60

/-- A 48-bit edge count or running total (R22, R64). -/
abbrev EdgeCount := BitVec 48

/-- The sense of one edge of a pin: the sense field of an item on the edge bus is never ANY (R26). -/
inductive EdgeSense where
  | rise
  | fall
  deriving DecidableEq, Repr

end Sys2Proof
end

