-- ==== Sys2Proof/Syntax.lean ====
section
/-! DEFINITION. The commands of the block, one constructor per row of spec/opcode_table.json. A host command carries its parameter
fields at the widths of the frame table (spec/10_command_port.md, section 10.7); an event carries what the world decides. -/

namespace Sys2Proof

/-- The context configuration block of DEFINE CONTEXT, field by field as sent (section 10.7, R178). -/
structure ConfigBlock where
  kind : Byte
  channelA : Byte
  senseA : Byte
  channelB : Byte
  senseB : Byte
  armMode : Byte
  armChannel : Byte
  armSense : Byte
  runMode : Byte
  gateMode : Byte
  totalMode : Byte
  limitEnable : Byte
  passCount : Byte
  skipCount : Byte
  /-- G in µs, five bytes -/
  gateTime : BitVec 40
  /-- M -/
  averaging : BitVec 16
  /-- D in coarse ticks -/
  stopDelay : BitVec 32
  /-- W in ms -/
  watch : BitVec 32
  lowLimit : BitVec 64
  highLimit : BitVec 64
  deriving DecidableEq, Repr

/-- The 31 value bytes of MODIFY CONTEXT, field by field as sent (R178). -/
structure ModifyBlock where
  limitEnable : Byte
  lowLimit : BitVec 64
  highLimit : BitVec 64
  passCount : Byte
  skipCount : Byte
  runMode : Byte
  gateTime : BitVec 40
  watch : BitVec 32
  averaging : BitVec 16
  deriving DecidableEq, Repr

/-- The commands and events of spec/opcode_table.json, in the table's order. -/
inductive Instr where
  | noOperation
  | readDeviceStatus
  | readIdentity
  | softReset
  | readTimescale
  | loadTimescale (value : Tick)
  | setSync (mode : Byte) (preset : Tick)
  | configureChannel (channel enable polarity : Byte) (holdoff : BitVec 16)
  | readChannel (channel : Byte)
  | calibrate (mask kind : Byte)
  | abortCalibration (mask : Byte)
  | readCalibration (channel : Byte)
  | readTable (channel start : Byte)
  | setDriftLimit (limit : BitVec 16)
  | defineContext (context : Byte) (block : ConfigBlock)
  | modifyContext (context : Byte) (selection : BitVec 16) (values : ModifyBlock)
  | arm (context : Byte) (armTime : Tick)
  | abort (context : Byte)
  | closeGate (context : Byte)
  | retire (context : Byte)
  | readResult (context : Byte)
  | readLive (context : Byte)
  | readContext (context : Byte)
  | setPriority (source priority mask : Byte)
  | setThreshold (threshold : Byte)
  | claim
  /-- A command code outside the frame table (R167). -/
  | unknownCommand (code : Byte)
  | frameStart
  /-- CSN rises before the command executes; `sckEdges` is the number of rising edges of SCK in the frame (R166). -/
  | frameDiscard (sckEdges : Nat)
  | frameEnd
  | resultRecordSnapshot
  | powerOnReset
  | resetRelease
  | coarseTick
  | timescaleWrap
  | syncEdge
  | lockAchieved
  | lockLost
  | referenceLossNotice (context : Fin 16)
  | referenceSearchTimeout
  /-- An edge on pin `channel`, `before` su ahead of the next coarse tick, for which the interpolator would record `raw`. -/
  | inputEdge (channel : Fin 8) (sense : EdgeSense) (raw : Byte) (before : BitVec 12)
  /-- The context takes the oldest item in flight to it from the channel, a stamped-edge message. -/
  | stampedEdgeMessage (context : Fin 16) (channel : Fin 8)
  /-- The context takes the oldest item in flight to it from the channel, an unstamped-edge notice. -/
  | unstampedEdgeNotice (context : Fin 16) (channel : Fin 8)
  | armTimeReached (context : Fin 16)
  | gateTimeExpiry (context : Fin 16)
  | totalizeTimeExpiry (context : Fin 16)
  | watchExpiry (context : Fin 16)
  | quotientTake
  | quotientComplete
  | calibrationStart
  | ringOscillatorHit (raw : Byte)
  | longCalibrationComplete
  | shortCalibrationComplete
  | shortCalibrationTimeout
  deriving DecidableEq, Repr

end Sys2Proof
end

