-- ==== Sys2Proof/Decode.lean ====
section
/-! DEFINITION. Reading a command from the bytes of an SPI frame and writing it (spec/10_command_port.md, sections 10.1 and 10.7).
spec/opcode_table.json gives no row any bits, so the host's `decodeTableWord` answers none (log 20); the words of this part are the
frames, and `decodeFrame` is total on any bytes. -/

namespace Sys2Proof

/-- The bytes of a value in a field of `n` bytes, most significant first (R164). -/
def bytesOf : Nat → Nat → List Byte
  | 0, _ => []
  | n + 1, v => BitVec.ofNat 8 (v / 256 ^ n) :: bytesOf n v

/-- The value of a field's bytes, most significant first (R164). -/
def valueOf (bytes : List Byte) : Nat :=
  bytes.foldl (fun acc b => acc * 256 + b.toNat) 0

/-- The value of the field of `n` bytes at an offset of the parameter bytes. -/
def fieldAt (params : List Byte) (offset n : Nat) : Nat :=
  valueOf ((params.drop offset).take n)

/-- The number of parameter bytes of each command code of the frame table (section 10.7); none for an unknown code (R167). -/
def paramCount (code : Byte) : Option Nat :=
  match code.toNat with
  | 0x00 => some 0
  | 0x01 => some 0
  | 0x02 => some 0
  | 0x03 => some 0
  | 0x08 => some 0
  | 0x09 => some 6
  | 0x0A => some 7
  | 0x10 => some 5
  | 0x11 => some 1
  | 0x12 => some 2
  | 0x13 => some 1
  | 0x14 => some 1
  | 0x15 => some 2
  | 0x16 => some 2
  | 0x20 => some 46
  | 0x21 => some 34
  | 0x22 => some 7
  | 0x23 => some 1
  | 0x24 => some 1
  | 0x25 => some 1
  | 0x28 => some 1
  | 0x29 => some 1
  | 0x2A => some 1
  | 0x30 => some 3
  | 0x31 => some 1
  | 0x32 => some 0
  | _ => none

/-- The configuration block at an offset of the parameter bytes (section 10.7, Context configuration block). -/
def configBlockAt (p : List Byte) (o : Nat) : ConfigBlock where
  kind := .ofNat 8 (fieldAt p o 1)
  channelA := .ofNat 8 (fieldAt p (o + 1) 1)
  senseA := .ofNat 8 (fieldAt p (o + 2) 1)
  channelB := .ofNat 8 (fieldAt p (o + 3) 1)
  senseB := .ofNat 8 (fieldAt p (o + 4) 1)
  armMode := .ofNat 8 (fieldAt p (o + 5) 1)
  armChannel := .ofNat 8 (fieldAt p (o + 6) 1)
  armSense := .ofNat 8 (fieldAt p (o + 7) 1)
  runMode := .ofNat 8 (fieldAt p (o + 8) 1)
  gateMode := .ofNat 8 (fieldAt p (o + 9) 1)
  totalMode := .ofNat 8 (fieldAt p (o + 10) 1)
  limitEnable := .ofNat 8 (fieldAt p (o + 11) 1)
  passCount := .ofNat 8 (fieldAt p (o + 12) 1)
  skipCount := .ofNat 8 (fieldAt p (o + 13) 1)
  gateTime := .ofNat 40 (fieldAt p (o + 14) 5)
  averaging := .ofNat 16 (fieldAt p (o + 19) 2)
  stopDelay := .ofNat 32 (fieldAt p (o + 21) 4)
  watch := .ofNat 32 (fieldAt p (o + 25) 4)
  lowLimit := .ofNat 64 (fieldAt p (o + 29) 8)
  highLimit := .ofNat 64 (fieldAt p (o + 37) 8)

/-- The 31 value bytes of MODIFY CONTEXT at an offset of the parameter bytes (R178). -/
def modifyBlockAt (p : List Byte) (o : Nat) : ModifyBlock where
  limitEnable := .ofNat 8 (fieldAt p o 1)
  lowLimit := .ofNat 64 (fieldAt p (o + 1) 8)
  highLimit := .ofNat 64 (fieldAt p (o + 9) 8)
  passCount := .ofNat 8 (fieldAt p (o + 17) 1)
  skipCount := .ofNat 8 (fieldAt p (o + 18) 1)
  runMode := .ofNat 8 (fieldAt p (o + 19) 1)
  gateTime := .ofNat 40 (fieldAt p (o + 20) 5)
  watch := .ofNat 32 (fieldAt p (o + 25) 4)
  averaging := .ofNat 16 (fieldAt p (o + 29) 2)

/-- One byte of the parameters. -/
def byteAt (p : List Byte) (o : Nat) : Byte := .ofNat 8 (fieldAt p o 1)

/-- The command of a code with its parameter bytes, at the layouts of the frame table (section 10.7). -/
def commandOf (code : Byte) (p : List Byte) : Instr :=
  match code.toNat with
  | 0x00 => .noOperation
  | 0x01 => .readDeviceStatus
  | 0x02 => .readIdentity
  | 0x03 => .softReset
  | 0x08 => .readTimescale
  | 0x09 => .loadTimescale (.ofNat 48 (fieldAt p 0 6))
  | 0x0A => .setSync (byteAt p 0) (.ofNat 48 (fieldAt p 1 6))
  | 0x10 => .configureChannel (byteAt p 0) (byteAt p 1) (byteAt p 2) (.ofNat 16 (fieldAt p 3 2))
  | 0x11 => .readChannel (byteAt p 0)
  | 0x12 => .calibrate (byteAt p 0) (byteAt p 1)
  | 0x13 => .abortCalibration (byteAt p 0)
  | 0x14 => .readCalibration (byteAt p 0)
  | 0x15 => .readTable (byteAt p 0) (byteAt p 1)
  | 0x16 => .setDriftLimit (.ofNat 16 (fieldAt p 0 2))
  | 0x20 => .defineContext (byteAt p 0) (configBlockAt p 1)
  | 0x21 => .modifyContext (byteAt p 0) (.ofNat 16 (fieldAt p 1 2)) (modifyBlockAt p 3)
  | 0x22 => .arm (byteAt p 0) (.ofNat 48 (fieldAt p 1 6))
  | 0x23 => .abort (byteAt p 0)
  | 0x24 => .closeGate (byteAt p 0)
  | 0x25 => .retire (byteAt p 0)
  | 0x28 => .readResult (byteAt p 0)
  | 0x29 => .readLive (byteAt p 0)
  | 0x2A => .readContext (byteAt p 0)
  | 0x30 => .setPriority (byteAt p 0) (byteAt p 1) (byteAt p 2)
  | 0x31 => .setThreshold (byteAt p 0)
  | 0x32 => .claim
  | _ => .unknownCommand code

/-- The command that the bytes of a frame execute: byte 0 is the code, the next bytes its parameters, and bytes after the last
parameter are ignored (R164). None while the parameters are not complete: a frame that ends there is discarded (R166). A code outside
the frame table executes at its own byte (R167). -/
def decodeFrame : List Byte → Option Instr
  | [] => none
  | code :: params =>
    match paramCount code with
    | none => some (.unknownCommand code)
    | some n => if params.length < n then none else some (commandOf code (params.take n))

/-- The bytes of a configuration block (section 10.7). -/
def configBlockBytes (c : ConfigBlock) : List Byte :=
  [c.kind, c.channelA, c.senseA, c.channelB, c.senseB, c.armMode, c.armChannel, c.armSense, c.runMode, c.gateMode, c.totalMode,
    c.limitEnable, c.passCount, c.skipCount] ++
  bytesOf 5 c.gateTime.toNat ++ bytesOf 2 c.averaging.toNat ++ bytesOf 4 c.stopDelay.toNat ++ bytesOf 4 c.watch.toNat ++
  bytesOf 8 c.lowLimit.toNat ++ bytesOf 8 c.highLimit.toNat

/-- The 31 value bytes of MODIFY CONTEXT (R178). -/
def modifyBlockBytes (m : ModifyBlock) : List Byte :=
  [m.limitEnable] ++ bytesOf 8 m.lowLimit.toNat ++ bytesOf 8 m.highLimit.toNat ++ [m.passCount, m.skipCount, m.runMode] ++
  bytesOf 5 m.gateTime.toNat ++ bytesOf 4 m.watch.toNat ++ bytesOf 2 m.averaging.toNat

/-- The bytes in of the frame that carries a host command (section 10.7); an event is carried by no frame. -/
def encodeFrame : Instr → Option (List Byte)
  | .noOperation => some [0x00]
  | .readDeviceStatus => some [0x01]
  | .readIdentity => some [0x02]
  | .softReset => some [0x03]
  | .readTimescale => some [0x08]
  | .loadTimescale v => some (0x09 :: bytesOf 6 v.toNat)
  | .setSync m v => some (0x0A :: m :: bytesOf 6 v.toNat)
  | .configureChannel c e p h => some (0x10 :: c :: e :: p :: bytesOf 2 h.toNat)
  | .readChannel c => some [0x11, c]
  | .calibrate m k => some [0x12, m, k]
  | .abortCalibration m => some [0x13, m]
  | .readCalibration c => some [0x14, c]
  | .readTable c r => some [0x15, c, r]
  | .setDriftLimit l => some (0x16 :: bytesOf 2 l.toNat)
  | .defineContext n b => some (0x20 :: n :: configBlockBytes b)
  | .modifyContext n sel m => some (0x21 :: n :: (bytesOf 2 sel.toNat ++ modifyBlockBytes m))
  | .arm n t => some (0x22 :: n :: bytesOf 6 t.toNat)
  | .abort n => some [0x23, n]
  | .closeGate n => some [0x24, n]
  | .retire n => some [0x25, n]
  | .readResult n => some [0x28, n]
  | .readLive n => some [0x29, n]
  | .readContext n => some [0x2A, n]
  | .setPriority i p m => some [0x30, i, p, m]
  | .setThreshold t => some [0x31, t]
  | .claim => some [0x32]
  | .unknownCommand code => some [code]
  | .frameStart => none
  | .frameDiscard _ => none
  | .frameEnd => none
  | .resultRecordSnapshot => none
  | .powerOnReset => none
  | .resetRelease => none
  | .coarseTick => none
  | .timescaleWrap => none
  | .syncEdge => none
  | .lockAchieved => none
  | .lockLost => none
  | .referenceLossNotice _ => none
  | .referenceSearchTimeout => none
  | .inputEdge _ _ _ _ => none
  | .stampedEdgeMessage _ _ => none
  | .unstampedEdgeNotice _ _ => none
  | .armTimeReached _ => none
  | .gateTimeExpiry _ => none
  | .totalizeTimeExpiry _ => none
  | .watchExpiry _ => none
  | .quotientTake => none
  | .quotientComplete => none
  | .calibrationStart => none
  | .ringOscillatorHit _ => none
  | .longCalibrationComplete => none
  | .shortCalibrationComplete => none
  | .shortCalibrationTimeout => none

/-- The host's question: the command a word spells by the table's bits. spec/opcode_table.json gives no row any bits, so no word spells
one (log 20). -/
def decodeTableWord (_nbits _w : Nat) : Option Instr := none

end Sys2Proof
end

