-- ==== Sys2Proof/Config.lean ====
section
/-! DEFINITION. What the manual fixes once for the part (capacities, identity, unit ratios) and the free values: the results the
manual never states because no run reaches their operands (notes/assumptions/16.md). -/

namespace Sys2Proof.Config

/-- Coarse ticks in one microsecond (spec/00_scope.md, Units). -/
def ticksPerMicrosecond : Nat := 250

/-- Coarse ticks in one millisecond (spec/00_scope.md, Units). -/
def ticksPerMillisecond : Nat := 250000

/-- The reference search ends after 2 s of elapsed coarse ticks (R10). -/
def searchLimit : Nat := 500000000

/-- A short calibration times out after 10 s of elapsed coarse ticks (R46). -/
def shortLimit : Nat := 2500000000

/-- Hits of a long calibration (R43). -/
def longHits : Nat := 65536

/-- Hits of a short calibration (R45). -/
def shortHits : Nat := 8192

/-- The stamp-blind time of 8 ns in su: two coarse ticks of 4096 su (R24). -/
def blindTime : Nat := 8192

/-- Items of two channels whose edges are more than 8 ns apart arrive in the order of their edges (R29). -/
def crossingTime : Nat := 8192

/-- The delivery delay of the edge bus is less than 1 µs, 250 coarse ticks, from the edge (R28). -/
def deliveryLimit : Nat := 250

/-- The longest gate time, 100,000,000,000 µs (R72). -/
def gateTimeMax : Nat := 100000000000

/-- The longest watch time, 100,000,000 ms, which a watch time of 0 names (R72). -/
def watchMax : Nat := 100000000

/-- The longest stop delay in coarse ticks (R72). -/
def stopDelayMax : Nat := 16777215

/-- The number of su in a second times the number of nHz in a hertz (R142). -/
def frequencyScale : Nat := 1024000000000000000000

/-- The vendor code, family code and silicon revision of READ IDENTITY (R173). -/
def vendorCode : Nat := 0x0C1A

/-- See `vendorCode` (R173). -/
def familyCode : Nat := 0x0810

/-- See `vendorCode` (R173). -/
def revision : Nat := 1

/-- Free value: the frequency of a gate of span 0, which R89 excludes, as a function of E (log 16). DESIGN CHOICE, safe. -/
opaque frequencyOfNoSpan : EdgeCount → BitVec 64

/-- Free value: the mean of a batch of count 0, which R110 excludes, as a function of the sum (log 16). DESIGN CHOICE, safe. -/
opaque meanOfNoIntervals : BitVec 80 → BitVec 64

end Sys2Proof.Config
end

