-- ==== Sys2Proof/Machine/Tables.lean ====
section
/-! DEFINITION. Calibration tables: 256 fine values of 0 to 4095 su, indexed by the raw code (R35), and the nominal table. -/

namespace Sys2Proof.Machine

/-- A calibration table: one fine value for each raw code (R35). -/
abbrev FineTable := Vector (BitVec 12) 256

/-- The entry of a table for a raw code. -/
def fineOf (t : FineTable) (raw : Byte) : BitVec 12 := t[raw.toFin]

/-- The nominal table, fine(r) = min(4095, 18·r + 9) (R35). -/
def nominalTable : FineTable := Vector.ofFn fun r => BitVec.ofNat 12 (min 4095 (18 * r.val + 9))

end Sys2Proof.Machine
end

