-- ==== Sys2Proof/Machine/State.lean ====
section
/-! DEFINITION. Everything the ET810 holds, as plain data, and its values after reset. INVENTORY.md lists each field with the rule that
names it. -/

namespace Sys2Proof.Machine

/-! ## The timescale block -/

/-- The reference monitor's state (R7). -/
inductive RefState where
  | searching
  | locked
  | holdover
  deriving DecidableEq, Repr

/-- The SYNC mode (R5). -/
inductive SyncMode where
  | off
  | loadOnRise
  deriving DecidableEq, Repr

/-- The timescale block (R1 to R10). -/
structure Clock where
  timescale : Tick
  /-- coarse ticks since RSTN rose, untouched by loads: the model's measure of elapsed ticks (log 6) -/
  elapsed : Nat
  monitor : RefState
  /-- the reference search: its count of elapsed ticks while it is in progress (R10) -/
  search : Option Nat
  syncMode : SyncMode
  preset : Tick
  deriving DecidableEq, Repr

/-! ## The input channels -/

/-- A channel's polarity (R16, R20). -/
inductive Polarity where
  | rise
  | fall
  | both
  deriving DecidableEq, Repr

/-- One entry of a channel's edge log: the elapsed edge tick and the sense of an accepted edge (log 6). -/
structure EdgeMark where
  tick : Nat
  sense : EdgeSense
  deriving DecidableEq, Repr

/-- One input channel (R16). The calibration phase is computed from the engine (R37). -/
structure Channel where
  enable : Bool
  polarity : Polarity
  holdoff : BitVec 12
  rising : EdgeCount
  falling : EdgeCount
  /-- the elapsed edge tick of the last accepted edge: the holdoff history as an absolute figure (log 6) -/
  lastAccepted : Option Nat
  /-- the elapsed time in su of the last stamped edge: the blind history as an absolute figure (log 5, log 6) -/
  lastStamped : Option Nat
  /-- every accepted edge since the counters were zeroed, newest first, from which R23 samples a past tick (log 6) -/
  log : List EdgeMark
  deriving DecidableEq, Repr

/-- What a stamped-edge message carries beyond an unstamped-edge notice (R26); its stamp is 4096·K − F (R25). -/
structure StampInfo where
  fine : BitVec 12
  count : EdgeCount
  generation : Byte
  unlocked : Bool
  deriving DecidableEq, Repr

/-- One item of the edge bus: a stamped-edge message, or a notice where `stamped` is empty (R26, R27). -/
structure BusItem where
  channel : Fin 8
  sense : EdgeSense
  /-- the edge tick K -/
  tick : Tick
  stamped : Option StampInfo
  /-- the elapsed edge tick, for sampling (R23) and for loads before the edge tick (R4) -/
  edgeTick : Nat
  /-- the elapsed time of the edge in su, for the arrival order of R29 -/
  time : Nat
  /-- the contexts that have still to take the item (R28) -/
  recipients : List (Fin 16)
  deriving DecidableEq, Repr

/-! ## The calibration engine -/

/-- The kind of a calibration (R37). -/
inductive CalKind where
  | short
  | long
  deriving DecidableEq, Repr

/-- The outcome of a channel's latest calibration (R53). -/
inductive CalOutcome where
  | none
  | done
  | timeout
  | correlated
  | aborted
  deriving DecidableEq, Repr

/-- A channel's calibration phase (R16, R37). -/
inductive Phase where
  | none
  | shortWait
  | shortRun
  | longWait
  | longRun
  deriving DecidableEq, Repr

/-- The running calibration (R37); `ticks` is counted for SHORT. -/
structure Running where
  channel : Fin 8
  kind : CalKind
  hits : Nat
  ticks : Nat
  deriving DecidableEq, Repr

/-- An entry of the calibration queue (R38). -/
structure CalEntry where
  channel : Fin 8
  kind : CalKind
  deriving DecidableEq, Repr

/-- A channel's outcome record (R53), less the generation, which always equals the table's and is held with it (log 24). -/
structure OutcomeRecord where
  lastKind : Option CalKind
  outcome : CalOutcome
  drift : BitVec 12
  deriving DecidableEq, Repr

/-- The histogram of 256 bins (R37). -/
abbrev Histogram := Vector (BitVec 17) 256

/-- The calibration engine (R37). -/
structure Engine where
  running : Option Running
  histogram : Histogram
  queue : List CalEntry
  tables : Vector FineTable 8
  generations : Vector Byte 8
  outcomes : Vector OutcomeRecord 8
  driftLimit : BitVec 12
  init : Bool
  deriving DecidableEq, Repr

/-! ## Measurement contexts -/

/-- What a context measures (R59). -/
inductive Kind where
  | none
  | frequency
  | interval
  | totalize
  deriving DecidableEq, Repr

/-- The sense of a context's role (R32). -/
inductive Sense where
  | rise
  | fall
  | any
  deriving DecidableEq, Repr

/-- How the arm condition is met (R59). -/
inductive ArmMode where
  | immediate
  | atTime
  | onEdge
  deriving DecidableEq, Repr

/-- One gate per ARM, or gates in succession (R59). -/
inductive RunMode where
  | single
  | continuous
  deriving DecidableEq, Repr

/-- How a TOTALIZE gate opens and closes (R59). -/
inductive GateMode where
  | time
  | window
  | manual
  deriving DecidableEq, Repr

/-- How the running total treats overflow (R59, R137). -/
inductive TotalMode where
  | saturate
  | wrap
  deriving DecidableEq, Repr

/-- A context's state (R65). -/
inductive CtxState where
  | free
  | idle
  | armed
  | starting
  | gating
  | closing
  | settling
  deriving DecidableEq, Repr

/-- A role of a context on a channel (R68). -/
inductive Role where
  | a
  | b
  | arm
  deriving DecidableEq, Repr

/-- A context's configuration; a field the context does not hold is at its zero value (R59, R60). -/
structure CtxConfig where
  kind : Kind
  channelA : Fin 8
  senseA : Sense
  channelB : Fin 8
  senseB : Sense
  armMode : ArmMode
  armTime : Tick
  armChannel : Fin 8
  armSense : Sense
  runMode : RunMode
  gateMode : GateMode
  totalMode : TotalMode
  limitEnable : Bool
  passCount : Byte
  skipCount : Byte
  gateTime : BitVec 40
  averaging : BitVec 16
  stopDelay : BitVec 32
  watch : BitVec 32
  lowLimit : BitVec 64
  highLimit : BitVec 64
  deriving DecidableEq, Repr

/-- The flags of a gate, a batch or a result (R149, R179). A gate in progress uses BLIND, CAL_SWAP, REF and TIMEOUT_CLOSE, a
closed-gate slot also GAP; the rest are decided at the posting. -/
structure Flags where
  sat : Bool
  limitLow : Bool
  limitHigh : Bool
  calSwap : Bool
  blind : Bool
  ref : Bool
  late : Bool
  gap : Bool
  timeoutClose : Bool
  deriving DecidableEq, Repr

/-- All flags clear. -/
def Flags.clear : Flags := ⟨false, false, false, false, false, false, false, false, false⟩

/-- A held stop candidate: its stamp, generation and unlocked marker (R109). -/
structure HeldStop where
  stamp : Stamp
  generation : Byte
  unlocked : Bool
  deriving DecidableEq, Repr

/-- The live figures of a context (R61, R88, R109) and the five figures the manual implies (log 17). -/
structure Live where
  fulfilTick : Tick
  fulfilStamp : Stamp
  /-- the elapsed tick of the arm fulfilment, by which R80 sets notices aside (log 17, log 27) -/
  fulfilElapsed : Nat
  startStamp : Stamp
  startCount : EdgeCount
  startGeneration : Byte
  openTick : Tick
  openCount : EdgeCount
  expiryTick : Tick
  deadline : Option Tick
  edgeTally : EdgeCount
  floor : Stamp
  heldStop : Option HeldStop
  heldNotice : Option Tick
  batchOpen : Bool
  batchSize : BitVec 16
  batchGenA : Option Byte
  batchGenB : Option Byte
  batchSum : BitVec 80
  batchCount : BitVec 16
  batchMin : Stamp
  batchMax : Stamp
  firstStart : Stamp
  flags : Flags
  /-- the timescale value at the ARM, which R79's stamp test uses (log 17) -/
  armTick : Tick
  /-- the elapsed tick of the ARM, at or before which no edge takes part in the run, whatever a load made of its stamp (R12, R80; log 17) -/
  armElapsed : Nat
  /-- the tick at which the present STARTING wait was entered, which R111's floor uses (log 17) -/
  entryTick : Tick
  /-- whether items are still tested against the arm fulfilment (R90, R130; log 17) -/
  testFulfilment : Bool
  deriving DecidableEq, Repr

/-- Every live figure 0, empty or clear (R61). -/
def Live.zero : Live where
  fulfilTick := 0
  fulfilStamp := 0
  fulfilElapsed := 0
  startStamp := 0
  startCount := 0
  startGeneration := 0
  openTick := 0
  openCount := 0
  expiryTick := 0
  deadline := none
  edgeTally := 0
  floor := 0
  heldStop := none
  heldNotice := none
  batchOpen := false
  batchSize := 0
  batchGenA := none
  batchGenB := none
  batchSum := 0
  batchCount := 0
  batchMin := 0
  batchMax := 0
  firstStart := 0
  flags := Flags.clear
  armTick := 0
  armElapsed := 0
  entryTick := 0
  testFulfilment := false

/-- The raw figures of one closed gate (R89) or batch (R110). -/
inductive RawFigures where
  | frequency (edges : EdgeCount) (span : Stamp) (start : Stamp)
  | interval (sum : BitVec 80) (count : BitVec 16) (minimum maximum firstStart : Stamp)
  deriving DecidableEq, Repr

/-- The contents of a closed-gate slot: raw figures, flags and sequence number (R89, R110). -/
structure RawGate where
  figures : RawFigures
  flags : Flags
  seq : BitVec 16
  deriving DecidableEq, Repr

/-- The figures of a result record, by kind (R150). -/
inductive Figures where
  | none
  | frequency (edges : EdgeCount) (span : Stamp) (frequency : BitVec 64) (start : Stamp)
  | interval (count : BitVec 16) (mean : BitVec 64) (minimum maximum firstStart : Stamp)
  | totalize (edges total : EdgeCount) (openTick closeTick : Tick)
  deriving DecidableEq, Repr

/-- A result record (R63, R150); its kind is that of its figures. -/
structure ResultRecord where
  fresh : Bool
  overrun : Bool
  seq : BitVec 16
  flags : Flags
  figures : Figures
  deriving DecidableEq, Repr

/-- The empty record, kind NONE (R63). -/
def ResultRecord.empty : ResultRecord := ⟨false, false, 0, Flags.clear, Figures.none⟩

/-- One measurement context (R59). -/
structure Context where
  config : CtxConfig
  state : CtxState
  live : Live
  /-- the closed-gate slot: EMPTY or QUEUED with its contents (R63) -/
  slot : Option RawGate
  record : ResultRecord
  total : EdgeCount
  seq : BitVec 16
  position : Byte
  latePending : Bool
  deriving DecidableEq, Repr

/-- Every configuration field at 0 (R59). -/
def CtxConfig.zero : CtxConfig where
  kind := .none
  channelA := 0
  senseA := .rise
  channelB := 0
  senseB := .rise
  armMode := .immediate
  armTime := 0
  armChannel := 0
  armSense := .rise
  runMode := .single
  gateMode := .time
  totalMode := .saturate
  limitEnable := false
  passCount := 0
  skipCount := 0
  gateTime := 0
  averaging := 0
  stopDelay := 0
  watch := 0
  lowLimit := 0
  highLimit := 0

/-- A FREE context (R87). -/
def Context.free : Context where
  config := CtxConfig.zero
  state := .free
  live := Live.zero
  slot := none
  record := ResultRecord.empty
  total := 0
  seq := 0
  position := 0
  latePending := false

/-! ## Quotient unit, attention controller, command port -/

/-- The quotient unit's working record (section 8.2). -/
structure Work where
  context : Fin 16
  gate : RawGate
  void : Bool
  deriving DecidableEq, Repr

/-- The quotient queue and unit (R139, R140). -/
structure Quotient where
  queue : List (Fin 16)
  work : Option Work
  deriving DecidableEq, Repr

/-- One attention source (R154): `events` are its outstanding event causes; RESULT is computed (R155, log 24). -/
structure Source where
  priority : BitVec 4
  mask : BitVec 4
  events : BitVec 4
  deriving DecidableEq, Repr

/-- The attention controller (R154). -/
structure Attention where
  sources : Vector Source 20
  threshold : BitVec 4
  deriving DecidableEq, Repr

/-- Where the port stands in a frame (R164). -/
inductive FramePhase where
  /-- CSN is high -/
  | none
  /-- CSN is low and no command has executed -/
  | opened
  /-- CSN is low and the frame's command has executed -/
  | executed
  /-- CSN is low and the frame is not taken: CSN fell while RSTN was low, or RSTN fell inside the frame (R176) -/
  | ignored
  deriving DecidableEq, Repr

/-- The burst a frame is sending (R174): the next record of READ RESULT, or READ TABLE's copy and start code (R56). -/
inductive Burst where
  | none
  | results (next : Fin 16)
  | table (copy : FineTable) (start : Byte)
  deriving DecidableEq, Repr

/-- Result codes (R168). -/
inductive ResultCode where
  | ok
  | clamped
  | already
  | state
  | notReady
  | inUse
  | range
  | badField
  | unknown
  deriving DecidableEq, Repr

/-- The command port (R164 to R176): its two indications and what the present or latest frame sends. -/
structure Port where
  frame : FramePhase
  frameErr : Bool
  lastRefused : Bool
  /-- byte 0 out (R170) -/
  statusOut : Byte
  /-- how many parameter bytes came in before the execution (R164) -/
  params : Nat
  /-- the byte out that follows the execution (R164) -/
  resultOut : Option ResultCode
  /-- the response bytes formed so far (R164, R174; log 21) -/
  response : List Byte
  burst : Burst
  deriving DecidableEq, Repr

/-! ## The whole part -/

/-- Everything the part holds, and the queue of waiting commands. -/
structure State where
  rstnLow : Bool
  clock : Clock
  channels : Vector Channel 8
  bus : List BusItem
  engine : Engine
  contexts : Vector Context 16
  listeners : Vector (List (Fin 16 × Role)) 8
  /-- reference-loss notices sent and not yet taken, by context (R9) -/
  lossNotices : Vector Nat 16
  quotient : Quotient
  attention : Attention
  port : Port
  pending : List Instr
  deriving DecidableEq, Repr

/-- No command of this block stops the part: the manual answers every command with a result code (R168) and gives every event an effect
or none, so there is no fault. Nobody raises one, which is safe: nothing the hardware does is cut off. -/
inductive Fault where
  deriving DecidableEq, Repr

/-- Why a command has no meaning. -/
inductive Refusal where
  /-- Raised by an arm of `exec` whose command is not modelled yet. Safe: the model stops. No arm raises it now. -/
  | notModelled (mnemonic : String)
  deriving DecidableEq, Repr

/-! ## Reset values -/

/-- A channel after reset (R34). -/
def Channel.reset : Channel := ⟨false, .rise, 0, 0, 0, none, none, []⟩

/-- The timescale block after power-on reset (R2, R5, R10). -/
def Clock.reset : Clock := ⟨0, 0, .searching, some 0, .off, 0⟩

/-- The calibration engine after power-on reset (R52). -/
def Engine.reset : Engine where
  running := none
  histogram := Vector.replicate 256 0
  queue := []
  tables := Vector.replicate 8 nominalTable
  generations := Vector.replicate 8 0
  outcomes := Vector.replicate 8 ⟨none, .none, 0⟩
  driftLimit := 24
  init := true

/-- The mask with every cause of a source enabled: the causes of R154. -/
def causesOf (id : Fin 20) : BitVec 4 :=
  if id.val < 16 then 0b1111#4
  else if id.val = 16 then 0b0001#4
  else if id.val = 17 then 0b0111#4
  else 0b0011#4

/-- The attention controller after reset (R163). -/
def Attention.reset : Attention where
  sources := Vector.ofFn fun id => ⟨0, causesOf id, 0⟩
  threshold := 1

/-- The quotient unit after reset (R145). -/
def Quotient.reset : Quotient := ⟨[], none⟩

/-- The command port after power-on reset (R176); the bytes out before the first frame are log 21. DESIGN CHOICE. -/
def Port.reset : Port := ⟨.none, false, false, 0, 0, none, [], .none⟩

/-- The part right after power-on reset, when RSTN has risen and no coarse tick has come (R2, log 1). -/
def State.reset : State where
  rstnLow := false
  clock := Clock.reset
  channels := Vector.replicate 8 Channel.reset
  bus := []
  engine := Engine.reset
  contexts := Vector.replicate 16 Context.free
  listeners := Vector.replicate 8 []
  lossNotices := Vector.replicate 16 0
  quotient := Quotient.reset
  attention := Attention.reset
  port := Port.reset
  pending := []

end Sys2Proof.Machine
end

