-- ==== Sys2Proof/Machine/Time.lean ====
section
/-! DEFINITION. Arithmetic on ticks and stamps (spec/01_timescale_reference_and_stamps.md, sections 1.5 and 1.6). -/

namespace Sys2Proof.Machine

/-- The stamp a tick stands for, 4096·T modulo 2^60 (R12). -/
def stampOfTick (t : Tick) : Stamp := t.setWidth 60 <<< 12

/-- The stamp of an edge: 4096·K − F modulo 2^60 (R11). -/
def stampOf (k : Tick) (fine : BitVec 12) : Stamp := stampOfTick k - fine.setWidth 60

/-- The coarse tick of a stamp: the smallest K with 4096·K at or above it, modulo 2^48 (R12). -/
def tickOfStamp (s : Stamp) : Tick := ((s + 4095) >>> 12).setWidth 48

/-- Stamp `b` is later than stamp `a`: their difference lies from 1 to 2^59 − 1 (R13). -/
def laterStamp (b a : Stamp) : Bool := decide (0 < (b - a).toNat) && decide ((b - a).toNat < 2 ^ 59)

/-- Stamp `b` is later than or the same as stamp `a` (R13). -/
def atLeastStamp (b a : Stamp) : Bool := decide ((b - a).toNat < 2 ^ 59)

/-- Tick `b` is later than tick `a`: their difference lies from 1 to 2^47 − 1 (R13). -/
def laterTick (b a : Tick) : Bool := decide (0 < (b - a).toNat) && decide ((b - a).toNat < 2 ^ 47)

/-- The ticks of a gate time in µs, G·250 (R14). -/
def gateTicks (g : BitVec 40) : Tick := .ofNat 48 (g.toNat * Config.ticksPerMicrosecond)

/-- The ticks of a watch time in ms, W·250,000 (R14). -/
def watchTicks (w : BitVec 32) : Tick := .ofNat 48 (w.toNat * Config.ticksPerMillisecond)

/-- The stop delay in su, 4096·D (R14). -/
def delayStamp (d : BitVec 32) : Stamp := .ofNat 60 (d.toNat * 4096)

/-- How ARM's arm time stands to the present tick (R15). -/
inductive ArmTimeIs where
  | present
  | future
  | past
  deriving DecidableEq, Repr

/-- The AT_TIME test of R15, on the difference (arm time − now) modulo 2^48. -/
def armTimeTest (armTime now : Tick) : ArmTimeIs :=
  if armTime = now then .present
  else if (armTime - now).toNat < 2 ^ 47 then .future
  else .past

end Sys2Proof.Machine
end

