-- ==== Sys2Proof/Machine/Ops.lean ====
section
/-! DEFINITION. The named operations over the part's state that the commands share: reading and writing a context, a channel and a
source; raising causes (R155) and what the attention controller computes from them (R156, R160); the calibration phase (R37) and service
(R19); sampling a counter (R23); the end of a run (R66). -/

namespace Sys2Proof.Machine

/-! ## Contexts -/

/-- The record of context `n`. -/
def State.ctx (s : State) (n : Fin 16) : Context := s.contexts[n]

/-- Replace the record of context `n`. -/
def State.setCtx (s : State) (n : Fin 16) (c : Context) : State := { s with contexts := s.contexts.set n c }

/-- Change the record of context `n`. -/
def State.modCtx (s : State) (n : Fin 16) (f : Context → Context) : State := s.setCtx n (f (s.ctx n))

/-- Change the live figures of context `n`. -/
def State.modLive (s : State) (n : Fin 16) (f : Live → Live) : State := s.modCtx n fun c => { c with live := f c.live }

/-- ARMED, STARTING, GATING or CLOSING (R65). -/
def CtxState.active : CtxState → Bool
  | .free => false
  | .idle => false
  | .armed => true
  | .starting => true
  | .gating => true
  | .closing => true
  | .settling => false

/-- Active or SETTLING: the states in which a context holds its channels (R17, R41). -/
def CtxState.holdsChannels (c : CtxState) : Bool := c.active || c = .settling

/-- Whether any context is active, which refuses a load of the timescale (R4, R6). -/
def State.anyActive (s : State) : Bool := s.contexts.toList.any fun c => c.state.active

/-! ## Channels and listener lists -/

/-- The record of channel `c`. -/
def State.channel (s : State) (c : Fin 8) : Channel := s.channels[c]

/-- Replace the record of channel `c`. -/
def State.setChannel (s : State) (c : Fin 8) (x : Channel) : State := { s with channels := s.channels.set c x }

/-- Empty a channel's holdoff and blind histories, as the end of a long calibration does (R31). -/
def State.emptyHistories (s : State) (c : Fin 8) : State :=
  s.setChannel c { s.channel c with lastAccepted := none, lastStamped := none }

/-- The listener list of channel `c` (R68). -/
def State.listenersOf (s : State) (c : Fin 8) : List (Fin 16 × Role) := s.listeners[c]

/-- Whether a context on the channel's listener list, in any role, is active or SETTLING (R17 check 3, R41 line 1). -/
def State.channelHeld (s : State) (c : Fin 8) : Bool :=
  (s.listenersOf c).any fun e => (s.ctx e.1).state.holdsChannels

/-- Whether a sense of a context takes an edge of a sense (R32, R90). -/
def Sense.takes : Sense → EdgeSense → Bool
  | .rise, .rise => true
  | .rise, .fall => false
  | .fall, .rise => false
  | .fall, .fall => true
  | .any, _ => true

/-- Whether a polarity admits an edge of a sense (R20). -/
def Polarity.admits : Polarity → EdgeSense → Bool
  | .rise, .rise => true
  | .rise, .fall => false
  | .fall, .rise => false
  | .fall, .fall => true
  | .both, _ => true

/-- Whether a polarity admits a context's sense, the table of R32. -/
def Polarity.admitsSense : Polarity → Sense → Bool
  | .rise, .rise => true
  | .rise, .fall => false
  | .rise, .any => true
  | .fall, .rise => false
  | .fall, .fall => true
  | .fall, .any => true
  | .both, _ => true

/-- The holdoff history at an elapsed tick: the ticks since the edge tick of the last accepted edge, held at 4096 (R16, R21). -/
def Channel.holdoffHistory (x : Channel) (tick : Nat) : Option Nat := x.lastAccepted.map fun t => min 4096 (tick - t)

/-- The accepted edges of a sense whose edge ticks come after an elapsed tick. -/
def Channel.edgesAfter (x : Channel) (sense : EdgeSense) (tick : Nat) : Nat :=
  (x.log.filter fun e => decide (e.sense = sense) && decide (tick < e.tick)).length

/-- A counter sampled at an elapsed tick: every accepted edge of the sense with edge tick at or before it, and none later (R23). -/
def Channel.sampleEdge (x : Channel) (tick : Nat) : EdgeSense → EdgeCount
  | .rise => x.rising - BitVec.ofNat 48 (x.edgesAfter .rise tick)
  | .fall => x.falling - BitVec.ofNat 48 (x.edgesAfter .fall tick)

/-- The count of a context's sense sampled at an elapsed tick; for ANY the sum of both counters modulo 2^48 (R128). -/
def Channel.sample (x : Channel) (tick : Nat) : Sense → EdgeCount
  | .rise => x.sampleEdge tick .rise
  | .fall => x.sampleEdge tick .fall
  | .any => x.sampleEdge tick .rise + x.sampleEdge tick .fall

/-! ## Calibration phase and service -/

/-- Whether the engine runs a calibration of a kind on a channel (R37). -/
def Engine.runs (e : Engine) (c : Fin 8) (k : CalKind) : Bool :=
  match e.running with
  | none => false
  | some r => decide (r.channel = c) && decide (r.kind = k)

/-- Whether the calibration queue holds an entry of a kind for a channel (R37). -/
def Engine.queued (e : Engine) (c : Fin 8) (k : CalKind) : Bool :=
  e.queue.any fun x => decide (x.channel = c) && decide (x.kind = k)

/-- The calibration phase of a channel: the first line of R37's table that applies. -/
def Engine.phase (e : Engine) (c : Fin 8) : Phase :=
  if e.runs c .long then .longRun
  else if e.queued c .long then .longWait
  else if e.runs c .short then .shortRun
  else if e.queued c .short then .shortWait
  else .none

/-- Phases that leave an enabled channel in service (R19). -/
def Phase.serves : Phase → Bool
  | .none => true
  | .shortWait => true
  | .shortRun => true
  | .longWait => false
  | .longRun => false

/-- Whether a channel is in service (R19). -/
def State.inService (s : State) (c : Fin 8) : Bool := (s.channel c).enable && (s.engine.phase c).serves

/-! ## Attention -/

/-- The numbers of the causes within their sources (R154). -/
def causeResult : Fin 4 := 0
/-- See `causeResult`: a primary value outside enabled limits (R148). -/
def causeLimit : Fin 4 := 1
/-- See `causeResult`: a result or gate replaced (R102, R149). -/
def causeOverrun : Fin 4 := 2
/-- See `causeResult`: a watch expired (R82). -/
def causeTimeout : Fin 4 := 3
/-- TIMESCALE: WRAP (R1). -/
def causeWrap : Fin 4 := 0
/-- CALIBRATION: DONE (R54). -/
def causeDone : Fin 4 := 0
/-- CALIBRATION: FAILED (R54). -/
def causeFailed : Fin 4 := 1
/-- CALIBRATION: DRIFT (R54). -/
def causeDrift : Fin 4 := 2
/-- REFERENCE: LOST (R7). -/
def causeLost : Fin 4 := 0
/-- REFERENCE: REGAINED (R7). -/
def causeRegained : Fin 4 := 1
/-- SYNC: LOADED (R6). -/
def causeLoaded : Fin 4 := 0
/-- SYNC: REFUSED (R6). -/
def causeRefused : Fin 4 := 1

/-- The attention source of context `n` (R59). -/
def contextSource (n : Fin 16) : Fin 20 := ⟨n.val, by omega⟩
/-- TIMESCALE, source 16 (R154). -/
def sourceTimescale : Fin 20 := 16
/-- CALIBRATION, source 17 (R154). -/
def sourceCalibration : Fin 20 := 17
/-- REFERENCE, source 18 (R154). -/
def sourceReference : Fin 20 := 18
/-- SYNC, source 19 (R154). -/
def sourceSync : Fin 20 := 19

/-- The bit of a cause in masks and sets (R154). -/
def causeBit (k : Fin 4) : BitVec 4 := 1#4 <<< k.val

/-- The record of source `id`. -/
def State.source (s : State) (id : Fin 20) : Source := s.attention.sources[id]

/-- Replace the record of source `id`. -/
def State.setSource (s : State) (id : Fin 20) (x : Source) : State :=
  { s with attention := { s.attention with sources := s.attention.sources.set id x } }

/-- Raise an event cause: it joins the set if its place is enabled and is discarded otherwise (R155). -/
def State.raise (s : State) (id : Fin 20) (k : Fin 4) : State :=
  s.setSource id { s.source id with events := (s.source id).events ||| ((s.source id).mask &&& causeBit k) }

/-- Remove every outstanding event cause of a source (R162). -/
def State.clearEvents (s : State) (id : Fin 20) : State := s.setSource id { s.source id with events := 0 }

/-- The level cause RESULT of a source: the fresh indication of its context's record under the source's mask (R155). -/
def State.resultCause (s : State) (id : Fin 20) : BitVec 4 :=
  if h : id.val < 16 then
    if (s.ctx ⟨id.val, h⟩).record.fresh then (s.source id).mask &&& causeBit causeResult else 0
  else 0

/-- A source's outstanding set (R155). -/
def State.outstanding (s : State) (id : Fin 20) : BitVec 4 := (s.source id).events ||| s.resultCause id

/-- A source is signalling when its set is non-empty and its priority at or above the threshold (R156). -/
def State.signalling (s : State) (id : Fin 20) : Bool :=
  decide (s.outstanding id ≠ 0) && decide (s.attention.threshold ≤ (s.source id).priority)

/-- ATTN is asserted while at least one source signals; it is released while RSTN is low (R156, R163). -/
def State.attn (s : State) : Bool := !s.rstnLow && (List.finRange 20).any s.signalling

/-- The source CLAIM chooses: of the signalling sources the highest priority, and of those the lowest ID (R160). -/
def State.claimChoice (s : State) : Option (Fin 20) :=
  (List.finRange 20).foldl (init := none) fun best id =>
    if s.signalling id then
      match best with
      | none => some id
      | some b => if (s.source b).priority < (s.source id).priority then some id else some b
    else best

/-! ## Quotient unit and the end of a run -/

/-- Whether the quotient unit holds work of context `n`; void work belongs to no context (R144). -/
def State.unitHolds (s : State) (n : Fin 16) : Bool :=
  match s.quotient.work with
  | none => false
  | some w => decide (w.context = n) && !w.void

/-- Whether a gate of context `n` waits in its slot or in the unit (R66). -/
def State.gatePending (s : State) (n : Fin 16) : Bool := (s.ctx n).slot.isSome || s.unitHolds n

/-- A SINGLE context stops measuring: SETTLING while a gate of it is pending, IDLE otherwise, and the deadline is emptied (R66, R81). -/
def State.endRun (s : State) (n : Fin 16) : State :=
  s.modCtx n fun c =>
    { c with state := if s.gatePending n then .settling else .idle, live := { c.live with deadline := none } }

/-- Whether the reference monitor is LOCKED. -/
def State.locked (s : State) : Bool := decide (s.clock.monitor = .locked)

/-- A watch deadline of context `n` from the tick at which the wait begins (R81), with the W in force when the event that begins the wait is
taken (R74), which may be later than that tick: DESIGN CHOICE (log 32). -/
def State.deadlineFrom (s : State) (n : Fin 16) (t : Tick) : Tick := t + watchTicks (s.ctx n).config.watch

end Sys2Proof.Machine
end

