-- ==== Sys2Proof/Machine/Flags.lean ====
section
/-! DEFINITION. The flag words: result flags (R179), the comparison with the limits (R148), the status byte (R170) and the
outstanding-source mask (R157). -/

namespace Sys2Proof.Machine

/-- A bit of a flag word. -/
def flagBit (w k : Nat) (b : Bool) : BitVec w := if b then 1#w <<< k else 0

/-- The flag bits of a record and of READ LIVE (R179). -/
def Flags.bits (f : Flags) : BitVec 16 :=
  flagBit 16 0 f.sat ||| flagBit 16 1 f.limitLow ||| flagBit 16 2 f.limitHigh ||| flagBit 16 3 f.calSwap ||| flagBit 16 4 f.blind |||
  flagBit 16 5 f.ref ||| flagBit 16 6 f.late ||| flagBit 16 7 f.gap ||| flagBit 16 8 f.timeoutClose

/-- LIMIT_LOW: limits enabled and the primary value below the low limit (R148). -/
def limitLow (c : CtxConfig) (primary : Nat) : Bool := c.limitEnable && decide (primary < c.lowLimit.toNat)

/-- LIMIT_HIGH: limits enabled and the primary value above the high limit (R148). -/
def limitHigh (c : CtxConfig) (primary : Nat) : Bool := c.limitEnable && decide (c.highLimit.toNat < primary)

/-- CAL_ACTIVE: the calibration queue is non-empty or a calibration is running (R37, R170). -/
def Engine.calActive (e : Engine) : Bool := !e.queue.isEmpty || e.running.isSome

/-- ANY_FRESH: the fresh indication of at least one record is set (R149, R170). -/
def State.anyFresh (s : State) : Bool := s.contexts.toList.any fun c => c.record.fresh

/-- QUOTIENT_BUSY: the queue is non-empty or the unit holds work, void work included (R139, R170). -/
def Quotient.busy (q : Quotient) : Bool := !q.queue.isEmpty || q.work.isSome

/-- The status byte (R170). -/
def State.statusByte (s : State) : Byte :=
  flagBit 8 7 s.engine.init ||| flagBit 8 6 s.attn ||| flagBit 8 5 s.engine.calActive ||| flagBit 8 4 s.locked |||
  flagBit 8 3 s.port.frameErr ||| flagBit 8 2 s.port.lastRefused ||| flagBit 8 1 s.anyFresh ||| flagBit 8 0 s.quotient.busy

/-- The outstanding-source mask: bit n set while source n has a non-empty outstanding set (R157). -/
def State.sourceMask (s : State) : BitVec 24 :=
  (List.finRange 20).foldl (init := 0) fun acc id => acc ||| flagBit 24 id.val (decide (s.outstanding id ≠ 0))

end Sys2Proof.Machine
end

