-- ==== Sys2Proof/Machine/Encodings.lean ====
section
/-! DEFINITION. The codes of every enumeration that crosses the port (R177) and of the result codes (R168): from a byte sent by the host,
none where the byte is outside the set, and to the byte the part sends. -/

namespace Sys2Proof.Machine

/-- Enable and limit enable: OFF 0, ON 1 (R177). -/
def onOffOf (b : Byte) : Option Bool := if b = 0 then some false else if b = 1 then some true else none

/-- See `onOffOf`; also the indications sent as 0 or 1 (R178, R179). -/
def onOffCode (b : Bool) : Byte := if b then 1 else 0

/-- Polarity: RISE 0, FALL 1, BOTH 2 (R177). -/
def polarityOf (b : Byte) : Option Polarity :=
  if b = 0 then some .rise else if b = 1 then some .fall else if b = 2 then some .both else none

/-- See `polarityOf`. -/
def polarityCode : Polarity → Byte
  | .rise => 0
  | .fall => 1
  | .both => 2

/-- Sense: RISE 0, FALL 1, ANY 2 (R177). -/
def senseOf (b : Byte) : Option Sense :=
  if b = 0 then some .rise else if b = 1 then some .fall else if b = 2 then some .any else none

/-- See `senseOf`. -/
def senseCode : Sense → Byte
  | .rise => 0
  | .fall => 1
  | .any => 2

/-- Calibration kind requested: SHORT 0, LONG 1 (R177). -/
def calKindOf (b : Byte) : Option CalKind := if b = 0 then some .short else if b = 1 then some .long else none

/-- Last kind in an outcome record: NONE 0, SHORT 1, LONG 2 (R177). -/
def lastKindCode : Option CalKind → Byte
  | none => 0
  | some .short => 1
  | some .long => 2

/-- Calibration phase (R177). -/
def phaseCode : Phase → Byte
  | .none => 0
  | .shortWait => 1
  | .shortRun => 2
  | .longWait => 3
  | .longRun => 4

/-- Calibration outcome (R177). -/
def outcomeCode : CalOutcome → Byte
  | .none => 0
  | .done => 1
  | .timeout => 2
  | .correlated => 3
  | .aborted => 4

/-- Context kind; DEFINE CONTEXT takes FREQUENCY, INTERVAL and TOTALIZE only (R70 check 3, R177). -/
def kindOf (b : Byte) : Option Kind :=
  if b = 1 then some .frequency else if b = 2 then some .interval else if b = 3 then some .totalize else none

/-- Context kind: NONE 0, FREQUENCY 1, INTERVAL 2, TOTALIZE 3 (R177). -/
def kindCode : Kind → Byte
  | .none => 0
  | .frequency => 1
  | .interval => 2
  | .totalize => 3

/-- Context state (R177). -/
def ctxStateCode : CtxState → Byte
  | .free => 0
  | .idle => 1
  | .armed => 2
  | .starting => 3
  | .gating => 4
  | .closing => 5
  | .settling => 6

/-- Arm mode: IMMEDIATE 0, AT_TIME 1, ON_EDGE 2 (R177). -/
def armModeOf (b : Byte) : Option ArmMode :=
  if b = 0 then some .immediate else if b = 1 then some .atTime else if b = 2 then some .onEdge else none

/-- See `armModeOf`. -/
def armModeCode : ArmMode → Byte
  | .immediate => 0
  | .atTime => 1
  | .onEdge => 2

/-- Run mode: SINGLE 0, CONTINUOUS 1 (R177). -/
def runModeOf (b : Byte) : Option RunMode := if b = 0 then some .single else if b = 1 then some .continuous else none

/-- See `runModeOf`. -/
def runModeCode : RunMode → Byte
  | .single => 0
  | .continuous => 1

/-- Gate mode: TIME 0, WINDOW 1, MANUAL 2 (R177). -/
def gateModeOf (b : Byte) : Option GateMode :=
  if b = 0 then some .time else if b = 1 then some .window else if b = 2 then some .manual else none

/-- See `gateModeOf`. -/
def gateModeCode : GateMode → Byte
  | .time => 0
  | .window => 1
  | .manual => 2

/-- Total mode: SATURATE 0, WRAP 1 (R177). -/
def totalModeOf (b : Byte) : Option TotalMode := if b = 0 then some .saturate else if b = 1 then some .wrap else none

/-- See `totalModeOf`. -/
def totalModeCode : TotalMode → Byte
  | .saturate => 0
  | .wrap => 1

/-- Reference state: SEARCHING 0, LOCKED 1, HOLDOVER 2 (R172, R177). -/
def refStateCode : RefState → Byte
  | .searching => 0
  | .locked => 1
  | .holdover => 2

/-- SYNC mode: OFF 0, LOAD_ON_RISE 1 (R5, R177). -/
def syncModeOf (b : Byte) : Option SyncMode := if b = 0 then some .off else if b = 1 then some .loadOnRise else none

/-- See `syncModeOf`. -/
def syncModeCode : SyncMode → Byte
  | .off => 0
  | .loadOnRise => 1

/-- The byte of a result code (R168). -/
def ResultCode.code : ResultCode → Byte
  | .ok => 0x00
  | .clamped => 0x01
  | .already => 0x02
  | .state => 0x10
  | .notReady => 0x11
  | .inUse => 0x12
  | .range => 0x13
  | .badField => 0x14
  | .unknown => 0x15

/-- The refusals: codes from 0x10 upward (R168). -/
def ResultCode.isRefusal : ResultCode → Bool
  | .ok => false
  | .clamped => false
  | .already => false
  | .state => true
  | .notReady => true
  | .inUse => true
  | .range => true
  | .badField => true
  | .unknown => true

/-- An index below a bound from a byte, none where it is at or above it (R168 RANGE). -/
def indexOf (n : Nat) (b : Byte) : Option (Fin n) := if h : b.toNat < n then some ⟨b.toNat, h⟩ else none

end Sys2Proof.Machine
end

