-- ==== Sys2Proof/Machine/Operands.lean ====
section
/-! DEFINITION. The operand forms of the commands: which fields a configuration holds (R59, R60), the checks on a sent configuration (R70)
and the clamping of numeric fields (R72). -/

namespace Sys2Proof.Machine

/-! ## Which fields a configuration holds -/

/-- Channel B and sense B: INTERVAL, and TOTALIZE with gate mode WINDOW (R59). -/
def holdsChannelB (k : Kind) (g : GateMode) : Bool := decide (k = .interval) || (decide (k = .totalize) && decide (g = .window))

/-- The gate time G: FREQUENCY, and TOTALIZE with gate mode TIME (R59). -/
def holdsGateTime (k : Kind) (g : GateMode) : Bool := decide (k = .frequency) || (decide (k = .totalize) && decide (g = .time))

/-- The averaging count M and the stop delay D: INTERVAL (R59). -/
def holdsInterval (k : Kind) : Bool := decide (k = .interval)

/-- The gate mode, the total mode and the running total: TOTALIZE (R59). -/
def holdsTotal (k : Kind) : Bool := decide (k = .totalize)

/-! ## Clamping -/

/-- A gate time brought to 1 to 100,000,000,000 (R72). -/
def clampGateTime (g : BitVec 40) : BitVec 40 :=
  if g = 0 then 1 else if Config.gateTimeMax < g.toNat then .ofNat 40 Config.gateTimeMax else g

/-- A watch time: 0 names the longest and is no clamp, above the longest is clamped to it (R72). -/
def clampWatch (w : BitVec 32) : BitVec 32 :=
  if w = 0 then .ofNat 32 Config.watchMax else if Config.watchMax < w.toNat then .ofNat 32 Config.watchMax else w

/-- Whether a watch time is out of range; 0 is not (R72). -/
def watchClamped (w : BitVec 32) : Bool := decide (Config.watchMax < w.toNat)

/-- An averaging count brought to 1 to 65,535 (R72). -/
def clampAveraging (m : BitVec 16) : BitVec 16 := if m = 0 then 1 else m

/-- A stop delay brought to 0 to 16,777,215 (R72). -/
def clampStopDelay (d : BitVec 32) : BitVec 32 := if Config.stopDelayMax < d.toNat then .ofNat 32 Config.stopDelayMax else d

/-- The skip count used (R72). -/
def clampSkip (sk : Byte) : Byte := if 15 < sk.toNat then 15 else sk

/-- The pass count used: brought to 15, then 0 with a skip count above 0 becomes 1 (R72). -/
def clampPass (p sk : Byte) : Byte :=
  let p' : Byte := if 15 < p.toNat then 15 else p
  if p' = 0 ∧ clampSkip sk ≠ 0 then 1 else p'

/-! ## DEFINE CONTEXT's configuration -/

/-- The arm channel is held only for ON_EDGE; an arm mode outside its set holds none (R70 check 5). -/
def blockHoldsArm (b : ConfigBlock) : Bool := decide (armModeOf b.armMode = some .onEdge)

/-- The verdict on a sent configuration: the result code of the first failed check of R70, or the configuration to store. -/
inductive Verdict where
  | refuse (code : ResultCode)
  | take (config : CtxConfig) (clamped : Bool)
  deriving DecidableEq, Repr

/-- A channel held by the configuration, RANGE where it is 8 or above; 0 where it is not held (R70 check 5, R60). -/
def heldChannel (held : Bool) (b : Byte) : Option (Fin 8) := if held then indexOf 8 b else some 0

/-- A sense held by the configuration, BAD_FIELD outside its set; 0 where it is not held (R70 check 6, R60). -/
def heldSense (held : Bool) (b : Byte) : Option Sense := if held then senseOf b else some .rise

/-- The configuration stored for a block that passed its checks, clamped as R72 gives, 0 where not held (R60, R71). -/
def storedConfig (b : ConfigBlock) (kind : Kind) (gate : GateMode) (chA chB chArm : Fin 8) (sA sB sArm : Sense) (am : ArmMode)
    (rm : RunMode) (lim : Bool) (tm : TotalMode) : CtxConfig where
  kind := kind
  channelA := chA
  senseA := sA
  channelB := chB
  senseB := sB
  armMode := am
  armTime := 0
  armChannel := chArm
  armSense := sArm
  runMode := rm
  gateMode := gate
  totalMode := tm
  limitEnable := lim
  passCount := clampPass b.passCount b.skipCount
  skipCount := clampSkip b.skipCount
  gateTime := if holdsGateTime kind gate then clampGateTime b.gateTime else 0
  averaging := if holdsInterval kind then clampAveraging b.averaging else 0
  stopDelay := if holdsInterval kind then clampStopDelay b.stopDelay else 0
  watch := clampWatch b.watch
  lowLimit := b.lowLimit
  highLimit := b.highLimit

/-- Whether R72 clamped a numeric field that the configuration holds. -/
def blockClamped (b : ConfigBlock) (kind : Kind) (gate : GateMode) : Bool :=
  (holdsGateTime kind gate && decide (clampGateTime b.gateTime ≠ b.gateTime)) ||
  (holdsInterval kind && (decide (clampAveraging b.averaging ≠ b.averaging) || decide (clampStopDelay b.stopDelay ≠ b.stopDelay))) ||
  watchClamped b.watch ||
  decide (clampPass b.passCount b.skipCount ≠ b.passCount) || decide (clampSkip b.skipCount ≠ b.skipCount)

/-- Checks 3 to 7 of R70 in their order, and the configuration to store. -/
def judgeBlock (b : ConfigBlock) : Verdict :=
  match kindOf b.kind with
  | none => .refuse .badField
  | some kind =>
    match (if holdsTotal kind then gateModeOf b.gateMode else some .time) with
    | none => .refuse .badField
    | some gate =>
      let hasB := holdsChannelB kind gate
      match indexOf 8 b.channelA, heldChannel hasB b.channelB, heldChannel (blockHoldsArm b) b.armChannel with
      | some chA, some chB, some chArm =>
        match senseOf b.senseA, heldSense hasB b.senseB, heldSense (blockHoldsArm b) b.armSense with
        | some sA, some sB, some sArm =>
          match armModeOf b.armMode, runModeOf b.runMode, onOffOf b.limitEnable,
              (if holdsTotal kind then totalModeOf b.totalMode else some .saturate) with
          | some am, some rm, some lim, some tm =>
            if lim ∧ b.highLimit < b.lowLimit then .refuse .badField
            else .take (storedConfig b kind gate chA chB chArm sA sB sArm am rm lim tm) (blockClamped b kind gate)
          | _, _, _, _ => .refuse .badField
        | _, _, _ => .refuse .badField
      | _, _, _ => .refuse .range

/-! ## The roles of a context -/

/-- The roles a configuration holds, with channel and sense, in the order A, B, ARM (R68). -/
def CtxConfig.roles (c : CtxConfig) : List (Role × Fin 8 × Sense) :=
  if c.kind = .none then []
  else
    [(.a, c.channelA, c.senseA)] ++
    (if holdsChannelB c.kind c.gateMode then [(.b, c.channelB, c.senseB)] else []) ++
    (if c.armMode = .onEdge then [(.arm, c.armChannel, c.armSense)] else [])

/-- INTERVAL with channel A equal to channel B and sense A equal to sense B (R109). -/
def CtxConfig.periodMode (c : CtxConfig) : Bool := decide (c.channelA = c.channelB) && decide (c.senseA = c.senseB)

/-! ## MODIFY CONTEXT's selection -/

/-- Bit `k` of the selection (R178). -/
def selects (selection : BitVec 16) (k : Nat) : Bool := selection.getLsbD k

/-- Bits 7 to 13 name fields that cannot be modified (R178). -/
def selectsFixed (selection : BitVec 16) : Bool := decide (selection &&& 0x3F80#16 ≠ 0)

/-- The configuration after a MODIFY CONTEXT's selected changes, clamped as R72 gives, with the limit enable and run mode decoded. -/
def modifiedConfig (c : CtxConfig) (sel : BitVec 16) (v : ModifyBlock) (lim : Bool) (rm : RunMode) : CtxConfig :=
  { c with
    limitEnable := if selects sel 0 then lim else c.limitEnable
    lowLimit := if selects sel 0 then v.lowLimit else c.lowLimit
    highLimit := if selects sel 0 then v.highLimit else c.highLimit
    passCount := if selects sel 1 then clampPass v.passCount v.skipCount else c.passCount
    skipCount := if selects sel 1 then clampSkip v.skipCount else c.skipCount
    runMode := if selects sel 2 then rm else c.runMode
    gateTime := if selects sel 3 then clampGateTime v.gateTime else c.gateTime
    watch := if selects sel 4 then clampWatch v.watch else c.watch
    averaging := if selects sel 5 then clampAveraging v.averaging else c.averaging }

/-- Whether R72 clamped a selected field. -/
def modifyClamped (sel : BitVec 16) (v : ModifyBlock) : Bool :=
  (selects sel 1 &&
    (decide (clampPass v.passCount v.skipCount ≠ v.passCount) || decide (clampSkip v.skipCount ≠ v.skipCount))) ||
  (selects sel 3 && decide (clampGateTime v.gateTime ≠ v.gateTime)) ||
  (selects sel 4 && watchClamped v.watch) ||
  (selects sel 5 && decide (clampAveraging v.averaging ≠ v.averaging))

/-- Checks 3 to 6 of R73 in their order on a defined context's configuration, and the configuration to store. -/
def judgeModify (c : CtxConfig) (sel : BitVec 16) (v : ModifyBlock) : Verdict :=
  if selectsFixed sel then .refuse .badField
  else if (selects sel 3 && !holdsGateTime c.kind c.gateMode) || (selects sel 5 && !holdsInterval c.kind) ||
      (selects sel 6 && !holdsTotal c.kind) then .refuse .badField
  else
    match (if selects sel 0 then onOffOf v.limitEnable else some c.limitEnable),
        (if selects sel 2 then runModeOf v.runMode else some c.runMode) with
    | some lim, some rm =>
      let c' := modifiedConfig c sel v lim rm
      if c'.limitEnable ∧ c'.highLimit < c'.lowLimit then .refuse .badField
      else .take c' (modifyClamped sel v)
    | _, _ => .refuse .badField

end Sys2Proof.Machine
end

