-- ==== Sys2Proof/Machine/Posting.lean ====
section
/-! DEFINITION. What every gate close shares: the sequence number and the gate pattern (R146), the closed-gate slot and the quotient queue
(R101, R102), and the posting of a result (R149). -/

namespace Sys2Proof.Machine

/-- Whether the gate pattern passes the gate that closes now (R146). -/
def Context.patternPasses (c : Context) : Bool :=
  (decide (c.config.passCount = 0) && decide (c.config.skipCount = 0)) || decide (c.position.toNat < c.config.passCount.toNat)

/-- The pattern position after a gate close: 0 while P and S are 0, otherwise advanced by one and back to 0 after P + S − 1 (R146). -/
def Context.nextPosition (c : Context) : Byte :=
  if c.config.passCount = 0 ∧ c.config.skipCount = 0 then 0
  else if c.config.passCount.toNat + c.config.skipCount.toNat ≤ c.position.toNat + 1 then 0
  else c.position + 1

/-- A gate close advances the sequence number by one, modulo 2^16, and the pattern position (R100, R146). -/
def Context.countClose (c : Context) : Context := { c with seq := c.seq + 1, position := c.nextPosition }

/-- Hand a passed gate to the closed-gate slot: an EMPTY slot is filled and the context joins the quotient queue (R101); a QUEUED slot has
its contents replaced with GAP set and OVERRUN is raised, the context keeping its place (R102). -/
def State.handOn (s : State) (n : Fin 16) (g : RawGate) : State :=
  if (s.ctx n).slot.isSome then
    (s.modCtx n fun c => { c with slot := some { g with flags := { g.flags with gap := true } } }).raise (contextSource n) causeOverrun
  else
    let t := s.modCtx n fun c => { c with slot := some { g with flags := { g.flags with gap := false } } }
    { t with quotient := { t.quotient with queue := t.quotient.queue ++ [n] } }

/-- The flags of a posted result: those of the gate, with the limit comparison (R148) and LATE pending (R149 step 1). -/
def Context.postedFlags (c : Context) (flags : Flags) (primary : Nat) : Flags :=
  { flags with limitLow := limitLow c.config primary, limitHigh := limitHigh c.config primary, late := c.latePending }

/-- The record after a posting (R149 steps 2 to 4). -/
def Context.postedRecord (c : Context) (figures : Figures) (seq : BitVec 16) (flags : Flags) (primary : Nat) : ResultRecord where
  fresh := true
  overrun := c.record.overrun || c.record.fresh
  seq := seq
  flags := c.postedFlags flags primary
  figures := figures

/-- The event causes of a posting: OVERRUN where the record was fresh (step 2) and LIMIT where a limit flag is set (step 5). -/
def State.postingCauses (s : State) (n : Fin 16) (wasFresh outside : Bool) : State :=
  let t := if wasFresh then s.raise (contextSource n) causeOverrun else s
  if outside then t.raise (contextSource n) causeLimit else t

/-- A SETTLING context with nothing left in the slot or the unit goes to IDLE (R66, R149 step 6). -/
def State.settleContext (s : State) (n : Fin 16) : State :=
  if (s.ctx n).state = .settling ∧ s.gatePending n = false then s.modCtx n fun c => { c with state := .idle } else s

/-- The posting of a result for context `n` (R149). -/
def State.post (s : State) (n : Fin 16) (figures : Figures) (seq : BitVec 16) (flags : Flags) (primary : Nat) : State :=
  let c := s.ctx n
  let t := s.setCtx n { c with record := c.postedRecord figures seq flags primary, latePending := false }
  (t.postingCauses n c.record.fresh (limitLow c.config primary || limitHigh c.config primary)).settleContext n

end Sys2Proof.Machine
end

