-- ==== Sys2Proof/Machine/Frequency.lean ====
section
/-! DEFINITION. FREQUENCY contexts (spec/05_frequency_measurement.md): the start edge, the open gate, its close and its watch. -/

namespace Sys2Proof.Machine

/-- A stamped-edge message as a context takes it (R26), with the model's elapsed edge tick for sampling (log 6). -/
structure Message where
  sense : EdgeSense
  stamp : Stamp
  count : EdgeCount
  generation : Byte
  unlocked : Bool
  edgeTick : Nat
  deriving DecidableEq, Repr

/-- An unstamped-edge notice as a context takes it (R27), with the model's elapsed edge tick for sampling (log 6). -/
structure Notice where
  sense : EdgeSense
  tick : Tick
  edgeTick : Nat
  deriving DecidableEq, Repr

/-- The item is later than the arm fulfilment, or the test is no longer made (R80, R90, R130). -/
def Live.pastFulfilment (l : Live) (stamp : Stamp) : Bool := !l.testFulfilment || laterStamp stamp l.fulfilStamp

/-- The start edge opens the gate (R91). -/
def State.frequencyStart (s : State) (n : Fin 16) (m : Message) : State :=
  s.modCtx n fun c =>
    { c with
      state := .gating
      live := { c.live with
        startStamp := m.stamp
        startCount := m.count
        startGeneration := m.generation
        expiryTick := tickOfStamp m.stamp + gateTicks c.config.gateTime
        flags := { Flags.clear with ref := m.unlocked }
        edgeTally := 0
        deadline := none } }

/-- One more item of channel A in the tally of a context with sense ANY (R88). -/
def State.tallyItem (s : State) (n : Fin 16) : State :=
  if (s.ctx n).config.senseA = .any then s.modLive n fun l => { l with edgeTally := l.edgeTally + 1 } else s

/-- The gate's count at the closing message: the difference of the counts, or the tally for sense ANY (R99). -/
def Context.gateEdges (c : Context) (m : Message) : EdgeCount :=
  if c.config.senseA = .any then c.live.edgeTally else m.count - c.live.startCount

/-- The flags of the gate at the closing message: REF (R95) and CAL_SWAP (R98) added to what the gate gathered. -/
def Context.closingFlags (c : Context) (m : Message) : Flags :=
  { c.live.flags with
    ref := c.live.flags.ref || m.unlocked
    calSwap := decide (m.generation ≠ c.live.startGeneration) }

/-- The closed gate's raw figures, under the sequence number after this close (R89, R99). -/
def Context.frequencyGate (c : Context) (m : Message) : RawGate :=
  ⟨.frequency (c.gateEdges m) (m.stamp - c.live.startStamp) c.live.startStamp, c.closingFlags m, c.seq + 1⟩

/-- The closing edge closes the gate (R95, R99, R100): a passed gate is handed on (R101, R102) and the run goes on or ends (R104, R66). -/
def State.frequencyClose (s : State) (n : Fin 16) (m : Message) : State :=
  let c := s.ctx n
  let t := s.modCtx n fun c => { c.countClose with live := { c.live with flags := Flags.clear, deadline := none } }
  let t := if c.patternPasses then t.handOn n (c.frequencyGate m) else t
  match c.config.runMode with
  | .single => t.endRun n
  | .continuous => t.frequencyStart n m

/-- A FREQUENCY context takes a stamped-edge message under role A (R90, R93, R94). -/
def State.frequencyMessage (s : State) (n : Fin 16) (m : Message) : State :=
  let c := s.ctx n
  if c.config.senseA.takes m.sense then
    match c.state with
    | .starting => if c.live.pastFulfilment m.stamp then s.frequencyStart n m else s
    | .gating | .closing =>
      let t := s.tallyItem n
      if laterTick (tickOfStamp m.stamp) c.live.expiryTick then t.frequencyClose n m else t
    | .free | .idle | .armed | .settling => s
  else s

/-- A FREQUENCY context takes an unstamped-edge notice under role A (R90, R93, R96). -/
def State.frequencyNotice (s : State) (n : Fin 16) (v : Notice) : State :=
  let c := s.ctx n
  if c.config.senseA.takes v.sense then
    match c.state with
    | .gating | .closing =>
      let t := s.tallyItem n
      if laterTick v.tick c.live.expiryTick then t.modLive n fun l => { l with flags := { l.flags with blind := true } } else t
    | .free | .idle | .armed | .starting | .settling => s
  else s

/-- How many ticks the timescale has gone past the expiry tick. -/
def Context.pastExpiry (c : Context) (now : Tick) : Nat := (now - c.live.expiryTick).toNat

/-- A context in GATING takes the reaching of its expiry tick: CLOSING, with its deadline formed from the expiry tick (R94). It may take it
after messages of later edges (R93), within the bound of a delivery (log 29). -/
def State.gateExpiry (s : State) (n : Fin 16) : State :=
  let c := s.ctx n
  if c.config.kind = .frequency ∧ c.state = .gating ∧ c.pastExpiry s.clock.timescale < Config.deliveryLimit then
    s.setCtx n { c with
      state := .closing, live := { c.live with deadline := some (s.deadlineFrom n c.live.expiryTick) } }
  else s

/-- The reaching of the expiry tick at the last tick at which the context may still take it (log 29). -/
def State.gateExpiryAtLast (s : State) (n : Fin 16) : State :=
  if (s.ctx n).pastExpiry s.clock.timescale + 1 = Config.deliveryLimit then s.gateExpiry n else s

/-- A watch expiry in STARTING or CLOSING: the gate in progress is discarded with its figures set to 0, and the run ends or waits anew in
STARTING with the fulfilment test no longer made (R90, R105, R106; log 12). -/
def State.frequencyWatch (s : State) (n : Fin 16) : State :=
  let c := s.ctx n
  let live := { c.live with
    startStamp := 0, startCount := 0, startGeneration := 0, expiryTick := 0, edgeTally := 0, flags := Flags.clear
    testFulfilment := false }
  let live := if c.state = .closing then live else { c.live with flags := Flags.clear, testFulfilment := false }
  match c.config.runMode with
  | .single => (s.setCtx n { c with live := live }).endRun n
  | .continuous =>
    s.setCtx n { c with state := .starting, live := { live with deadline := some (s.deadlineFrom n s.clock.timescale) } }

end Sys2Proof.Machine
end

