-- ==== Sys2Proof/Machine/Interval.lean ====
section
/-! DEFINITION. INTERVAL contexts (spec/06_time_interval_measurement.md): starts, stops, dropped intervals, batches and their watch. -/

namespace Sys2Proof.Machine

/-- Enter STARTING: the held-B slot emptied, the floor set, the deadline formed from the entry tick (R111), with the W in force when the
context takes the stop, notice or arm edge that it enters by: DESIGN CHOICE (log 32). -/
def State.intervalWait (s : State) (n : Fin 16) (floor : Stamp) (entry : Tick) : State :=
  s.modCtx n fun c =>
    { c with
      state := .starting
      live := { c.live with
        heldStop := none
        heldNotice := none
        floor := floor
        entryTick := entry
        deadline := some (s.deadlineFrom n entry) } }

/-- A batch opened at a start edge: its figures cleared and M taken (R114). -/
def Live.openBatch (l : Live) (start : Stamp) (size : BitVec 16) : Live :=
  { l with
    batchOpen := true
    firstStart := start
    batchSize := size
    batchSum := 0
    batchCount := 0
    batchMin := 0
    batchMax := 0
    flags := Flags.clear
    batchGenA := none
    batchGenB := none }

/-- Compare a generation with a batch generation: taken where empty, CAL_SWAP where it differs (R120). -/
def swapped (g : Option Byte) (generation : Byte) : Bool :=
  match g with
  | none => false
  | some x => decide (x ≠ generation)

/-- A message of channel A used in the batch enters the comparison with batch generation A (R120). -/
def Live.useGenA (l : Live) (generation : Byte) : Live :=
  { l with
    batchGenA := some (l.batchGenA.getD generation)
    flags := { l.flags with calSwap := l.flags.calSwap || swapped l.batchGenA generation } }

/-- A message of channel B used in the batch enters the comparison with batch generation B (R120). -/
def Live.useGenB (l : Live) (generation : Byte) : Live :=
  { l with
    batchGenB := some (l.batchGenB.getD generation)
    flags := { l.flags with calSwap := l.flags.calSwap || swapped l.batchGenB generation } }

/-- A stop message's generation, compared with batch generation B, or with A's where both channels are one (R120). -/
def Live.useStopGen (l : Live) (cfg : CtxConfig) (generation : Byte) : Live :=
  if cfg.channelA = cfg.channelB then l.useGenA generation else l.useGenB generation

/-- What every start edge records: the start stamp, REF, the generation, the deadline from the start edge's tick and an emptied held-B
slot, opening the batch if it is not open (R113, R114). -/
def State.intervalRecordStart (s : State) (n : Fin 16) (m : HeldStop) : State :=
  s.modCtx n fun c =>
    let l := if c.live.batchOpen then c.live else c.live.openBatch m.stamp c.config.averaging
    let l := { l with
      startStamp := m.stamp
      flags := { l.flags with ref := l.flags.ref || m.unlocked }
      deadline := some (s.deadlineFrom n (tickOfStamp m.stamp))
      heldStop := none
      heldNotice := none }
    { c with state := .gating, live := l.useGenA m.generation }

/-- The stop limit L = S_start + 4096·D (R114). -/
def Context.stopLimit (c : Context) : Stamp := c.live.startStamp + delayStamp c.config.stopDelay

/-- The shorter of two intervals, by their lengths in su. -/
def shorter (a b : Stamp) : Stamp := if a.toNat ≤ b.toNat then a else b

/-- The longer of two intervals, by their lengths in su. -/
def longer (a b : Stamp) : Stamp := if a.toNat ≤ b.toNat then b else a

/-- Add an interval to the batch: sum, count, minimum and maximum; the first interval becomes both extremes (R117). -/
def Live.addInterval (l : Live) (i : Stamp) : Live :=
  { l with
    batchSum := l.batchSum + i.setWidth 80
    batchCount := l.batchCount + 1
    batchMin := if l.batchCount = 0 then i else shorter l.batchMin i
    batchMax := if l.batchCount = 0 then i else longer l.batchMax i }

/-- The closed batch's raw figures, under the sequence number after this close (R110). -/
def Context.intervalGate (c : Context) : RawGate :=
  ⟨.interval c.live.batchSum c.live.batchCount c.live.batchMin c.live.batchMax c.live.firstStart, c.live.flags, c.seq + 1⟩

/-- The batch closes at the stop edge that completed it (R121). -/
def State.batchClose (s : State) (n : Fin 16) (stop : HeldStop) : State :=
  let c := s.ctx n
  let t := s.modCtx n fun c => { c.countClose with live := { c.live with flags := Flags.clear, batchOpen := false } }
  let t := if c.patternPasses then t.handOn n c.intervalGate else t
  match c.config.runMode with
  | .single => t.endRun n
  | .continuous =>
    if c.config.periodMode then t.intervalRecordStart n stop else t.intervalWait n stop.stamp (tickOfStamp stop.stamp)

/-- The stop edge forms the interval and adds it to the batch (R117); the batch closes or carries on (R118). -/
def State.intervalStop (s : State) (n : Fin 16) (stop : HeldStop) : State :=
  let t := s.modCtx n fun c =>
    let l := c.live.addInterval (stop.stamp - c.live.startStamp)
    let l := { l with flags := { l.flags with ref := l.flags.ref || stop.unlocked } }
    { c with live := l.useStopGen c.config stop.generation }
  let c := t.ctx n
  if c.live.batchCount = c.live.batchSize then t.batchClose n stop
  else if c.config.periodMode then t.intervalRecordStart n stop
  else t.intervalWait n stop.stamp (tickOfStamp stop.stamp)

/-- An interval is dropped at a notice's tick: BLIND is set and the context waits in STARTING (R119). -/
def State.intervalDrop (s : State) (n : Fin 16) (tick : Tick) : State :=
  (s.modLive n fun l => { l with flags := { l.flags with blind := true } }).intervalWait n (stampOfTick tick) tick

/-- The start edge: recorded, then, outside period mode, judged against what the held-B slot held, in the order of R115's cases. -/
def State.intervalStart (s : State) (n : Fin 16) (m : HeldStop) : State :=
  let held := (s.ctx n).live
  let t := s.intervalRecordStart n m
  let c := t.ctx n
  if c.config.periodMode then t
  else
    match held.heldNotice.filter (fun k => laterStamp (stampOfTick k) c.stopLimit) with
    | some k => t.intervalDrop n k
    | none =>
      match held.heldStop.filter (fun h => laterStamp h.stamp m.stamp && atLeastStamp h.stamp c.stopLimit) with
      | some h => t.intervalStop n h
      | none => t

/-- An INTERVAL context takes a stamped-edge message under role A (R112, R116). -/
def State.intervalMessageA (s : State) (n : Fin 16) (m : Message) : State :=
  let c := s.ctx n
  if c.state = .starting ∧ c.config.senseA.takes m.sense = true ∧ laterStamp m.stamp c.live.floor = true then
    s.intervalStart n ⟨m.stamp, m.generation, m.unlocked⟩
  else s

/-- An INTERVAL context takes a stamped-edge message under role B (R112, R116). -/
def State.intervalMessageB (s : State) (n : Fin 16) (m : Message) : State :=
  let c := s.ctx n
  if c.config.senseB.takes m.sense then
    match c.state with
    | .starting =>
      if !c.config.periodMode && laterStamp m.stamp c.live.floor then
        s.modLive n fun l => { l with heldStop := some ⟨m.stamp, m.generation, m.unlocked⟩ }
      else s
    | .gating =>
      if laterStamp m.stamp c.live.startStamp && atLeastStamp m.stamp c.stopLimit then
        s.intervalStop n ⟨m.stamp, m.generation, m.unlocked⟩
      else s
    | .free | .idle | .armed | .closing | .settling => s
  else s

/-- An INTERVAL context takes an unstamped-edge notice under role B (R112, R116); under role A it lets it pass. -/
def State.intervalNoticeB (s : State) (n : Fin 16) (v : Notice) : State :=
  let c := s.ctx n
  if c.config.senseB.takes v.sense then
    match c.state with
    | .starting =>
      if !c.config.periodMode && laterStamp (stampOfTick v.tick) c.live.floor then
        s.modLive n fun l => { l with heldNotice := some v.tick }
      else s
    | .gating => if laterStamp (stampOfTick v.tick) c.stopLimit then s.intervalDrop n v.tick else s
    | .free | .idle | .armed | .closing | .settling => s
  else s

/-- A batch discarded by a watch expiry: its figures, generations and flags set to 0, empty or clear (R123, R153; log 12). An expiry with no
batch open sets the figures of the last closed batch to 0 too: DESIGN CHOICE (log 12). -/
def Live.discardBatch (l : Live) : Live :=
  { l with
    batchOpen := false
    batchSize := 0
    batchGenA := none
    batchGenB := none
    batchSum := 0
    batchCount := 0
    batchMin := 0
    batchMax := 0
    firstStart := 0
    flags := Flags.clear }

/-- The floor of the STARTING wait that a watch expiry enters (R111). -/
def Context.expiryFloor (c : Context) : Stamp :=
  if c.state = .gating then c.live.startStamp else stampOfTick c.live.entryTick

/-- The stop delay is at least the watch, so that the interval times out before any stop (R125): the deadline is `now`, and the stop limit's
tick does not come before it. -/
def Context.timesOutFirst (c : Context) (now : Tick) : Bool :=
  decide (c.config.kind = .interval) && decide (c.state = .gating) && decide (c.live.deadline = some now) &&
  !laterTick now (tickOfStamp c.stopLimit)

/-- The item would end the interval in progress: a stop edge, or a notice that drops it (R116). -/
def Context.endsInterval (c : Context) (i : BusItem) : Bool :=
  decide (i.channel = c.config.channelB) && c.config.senseB.takes i.sense &&
  match i.stamped with
  | some x => laterStamp (stampOf i.tick x.fine) c.live.startStamp && atLeastStamp (stampOf i.tick x.fine) c.stopLimit
  | none => laterStamp (stampOfTick i.tick) c.stopLimit

/-- A watch expiry in STARTING or GATING (R123, R124; with no batch open, log 12). -/
def State.intervalWatch (s : State) (n : Fin 16) : State :=
  let c := s.ctx n
  let t := s.setCtx n { c with live := c.live.discardBatch }
  match c.config.runMode with
  | .single => t.endRun n
  | .continuous => t.intervalWait n c.expiryFloor s.clock.timescale

end Sys2Proof.Machine
end

