-- ==== Sys2Proof/Machine/Totalize.lean ====
section
/-! DEFINITION. TOTALIZE contexts (spec/07_totalizing.md): opening and closing a gate at a tick, the running total and the watch. -/

namespace Sys2Proof.Machine

/-- A boundary of a TOTALIZE gate: its tick, and the elapsed tick at which channel A is sampled (R128, log 6). -/
structure Boundary where
  tick : Tick
  elapsed : Nat
  deriving DecidableEq, Repr

/-- The boundary at the latest coarse tick. -/
def State.now (s : State) : Boundary := ⟨s.clock.timescale, s.clock.elapsed⟩

/-- Channel A's count of sense A sampled at a boundary (R128). -/
def State.boundaryCount (s : State) (n : Fin 16) (b : Boundary) : EdgeCount :=
  let c := (s.ctx n).config
  (s.channel c.channelA).sample b.elapsed c.senseA

/-- The expiry tick of a gate opened at a tick: formed for gate mode TIME only (R129). -/
def Context.openExpiry (c : Context) (t : Tick) : Tick :=
  if c.config.gateMode = .time then t + gateTicks c.config.gateTime else c.live.expiryTick

/-- A gate opens: open tick and count, flags, the expiry tick for TIME and the deadline for WINDOW and MANUAL (R129, R130, R133). -/
def State.totalOpen (s : State) (n : Fin 16) (b : Boundary) (ref blind : Bool) : State :=
  s.modCtx n fun c =>
    { c with
      state := .gating
      live := { c.live with
        openTick := b.tick
        openCount := s.boundaryCount n b
        flags := { Flags.clear with ref := ref, blind := blind }
        expiryTick := c.openExpiry b.tick
        deadline := if c.config.gateMode = .time then none else some (s.deadlineFrom n b.tick)
        testFulfilment := false } }

/-- The running total after a gate's count is added (R137). -/
def addTotal (mode : TotalMode) (t e : EdgeCount) : EdgeCount :=
  match mode with
  | .saturate => if 2 ^ 48 ≤ t.toNat + e.toNat then BitVec.allOnes 48 else t + e
  | .wrap => t + e

/-- SAT: the addition of this gate clamped (R137). -/
def totalClamps (mode : TotalMode) (t e : EdgeCount) : Bool :=
  match mode with
  | .saturate => decide (2 ^ 48 ≤ t.toNat + e.toNat)
  | .wrap => false

/-- How the run goes on after a TOTALIZE close (R136): TIME and MANUAL reopen at the close tick, WINDOW waits in STARTING. -/
def State.totalContinue (s : State) (n : Fin 16) (b : Boundary) : State :=
  let c := s.ctx n
  match c.config.runMode with
  | .single => s.endRun n
  | .continuous =>
    match c.config.gateMode with
    | .time | .manual => s.totalOpen n b (!s.locked) false
    | .window => s.setCtx n { c with state := .starting, live := { c.live with deadline := some (s.deadlineFrom n b.tick) } }

/-- A TOTALIZE gate closes at a boundary with the flags it gathered (R136). -/
def State.totalClose (s : State) (n : Fin 16) (b : Boundary) (flags : Flags) : State :=
  let c := s.ctx n
  let e := s.boundaryCount n b - c.live.openCount
  let total := addTotal c.config.totalMode c.total e
  let flags := { flags with sat := totalClamps c.config.totalMode c.total e }
  let t := s.modCtx n fun c =>
    { c.countClose with total := total, live := { c.live with flags := Flags.clear, deadline := none } }
  let t :=
    if c.patternPasses then t.post n (.totalize e total c.live.openTick b.tick) (c.seq + 1) flags e.toNat else t
  t.totalContinue n b

/-- The flags of a gate closed at the latest tick: REF where the monitor is not LOCKED there (R129, R133, R134). -/
def State.tickFlags (s : State) (n : Fin 16) : Flags :=
  let f := (s.ctx n).live.flags
  { f with ref := f.ref || !s.locked }

/-- The timescale reaches the expiry tick of a TIME gate (R129). -/
def State.totalExpiry (s : State) (n : Fin 16) : State :=
  let c := s.ctx n
  if c.config.kind = .totalize ∧ c.config.gateMode = .time ∧ c.state = .gating ∧ c.live.expiryTick = s.clock.timescale then
    s.totalClose n s.now (s.tickFlags n)
  else s

/-- An edge of a sense is of the sense opposite to a window's sense B (R131). -/
def Sense.opposes : Sense → EdgeSense → Bool
  | .rise, .fall => true
  | .rise, .rise => false
  | .fall, .rise => true
  | .fall, .fall => false
  | .any, _ => false

/-- A WINDOW context takes an item on role B, later than the fulfilment as `later` says, with REF and BLIND as the item gives them
(R130, R131). -/
def State.windowItem (s : State) (n : Fin 16) (sense : EdgeSense) (b : Boundary) (later ref blind : Bool) : State :=
  let c := s.ctx n
  match c.state with
  | .starting => if c.config.senseB.takes sense && (!c.live.testFulfilment || later) then s.totalOpen n b ref blind else s
  | .gating =>
    if c.config.senseB.opposes sense then
      let f := c.live.flags
      s.totalClose n b { f with ref := f.ref || ref, blind := f.blind || blind }
    else s
  | .free | .idle | .armed | .closing | .settling => s

/-- A stamped-edge message on role B of a TOTALIZE context: only a WINDOW context acts on it (R127, R130, R131). -/
def State.totalMessageB (s : State) (n : Fin 16) (m : Message) : State :=
  if (s.ctx n).config.gateMode = .window then
    s.windowItem n m.sense ⟨tickOfStamp m.stamp, m.edgeTick⟩ (laterStamp m.stamp (s.ctx n).live.fulfilStamp) m.unlocked false
  else s

/-- An unstamped-edge notice on role B of a TOTALIZE context: only a WINDOW context acts on it (R127, R130, R131). -/
def State.totalNoticeB (s : State) (n : Fin 16) (v : Notice) : State :=
  if (s.ctx n).config.gateMode = .window then
    s.windowItem n v.sense ⟨v.tick, v.edgeTick⟩ (laterTick v.tick (s.ctx n).live.fulfilTick) (!s.locked) true
  else s

/-- A watch expiry of a WINDOW context: the window in progress is discarded with its figures set to 0 (R132; log 12). -/
def State.windowWatch (s : State) (n : Fin 16) : State :=
  let c := s.ctx n
  let live :=
    if c.state = .gating then { c.live with openTick := 0, openCount := 0, flags := Flags.clear, testFulfilment := false }
    else { c.live with flags := Flags.clear, testFulfilment := false }
  match c.config.runMode with
  | .single => (s.setCtx n { c with live := live }).endRun n
  | .continuous =>
    s.setCtx n { c with state := .starting, live := { live with deadline := some (s.deadlineFrom n s.clock.timescale) } }

/-- A watch expiry of a MANUAL context closes its gate at the deadline tick with TIMEOUT_CLOSE (R134). -/
def State.manualWatch (s : State) (n : Fin 16) : State :=
  s.totalClose n s.now { s.tickFlags n with timeoutClose := true }

end Sys2Proof.Machine
end

