-- ==== Sys2Proof/Machine/Delivery.lean ====
section
/-! DEFINITION. Arm fulfilment (R79, R80), what a context does with an item of the edge bus under each role it holds (R28, R69), with a
reached arm time (R78), with a watch deadline (R82) and with a reference-loss notice (R9). -/

namespace Sys2Proof.Machine

/-- The arm condition is met: the fulfilment is recorded and the context enters the state of its kind (R80). `ref` is the mark that a
TOTALIZE gate opening at the fulfilment tick takes (R129, R133). -/
def State.fulfil (s : State) (n : Fin 16) (b : Boundary) (stamp : Stamp) (ref : Bool) : State :=
  let t := s.modLive n fun l => { l with fulfilTick := b.tick, fulfilStamp := stamp, fulfilElapsed := b.elapsed, testFulfilment := true }
  let c := t.ctx n
  match c.config.kind with
  | .none => t
  | .frequency =>
    t.setCtx n { c with state := .starting, live := { c.live with deadline := some (t.deadlineFrom n b.tick) } }
  | .interval => t.intervalWait n stamp b.tick
  | .totalize =>
    match c.config.gateMode with
    | .time | .manual => t.totalOpen n b ref false
    | .window =>
      t.setCtx n { c with state := .starting, live := { c.live with deadline := some (t.deadlineFrom n b.tick) } }

/-- The arm condition met at the latest coarse tick, for IMMEDIATE and AT_TIME (R77, R78, R80). -/
def State.fulfilNow (s : State) (n : Fin 16) : State :=
  s.fulfil n s.now (stampOfTick s.clock.timescale) (!s.locked)

/-- The timescale reaches the arm time of an ARMED AT_TIME context (R78). -/
def State.armTime (s : State) (n : Fin 16) : State :=
  let c := s.ctx n
  if c.state = .armed ∧ c.config.armMode = .atTime ∧ c.config.armTime = s.clock.timescale then s.fulfilNow n else s

/-- An ARMED ON_EDGE context takes a stamped-edge message under role ARM (R79). -/
def State.armMessage (s : State) (n : Fin 16) (m : Message) : State :=
  let c := s.ctx n
  if c.state = .armed ∧ c.config.armMode = .onEdge ∧ c.config.armSense.takes m.sense = true ∧
      laterStamp m.stamp (stampOfTick c.live.armTick) = true then
    s.fulfil n ⟨tickOfStamp m.stamp, m.edgeTick⟩ m.stamp m.unlocked
  else s

/-- A context takes a stamped-edge message under one role. -/
def State.takeMessage (s : State) (n : Fin 16) (m : Message) (r : Role) : State :=
  match r, (s.ctx n).config.kind with
  | .a, .frequency => s.frequencyMessage n m
  | .a, .interval => s.intervalMessageA n m
  | .a, .totalize => s
  | .a, .none => s
  | .b, .frequency => s
  | .b, .interval => s.intervalMessageB n m
  | .b, .totalize => s.totalMessageB n m
  | .b, .none => s
  | .arm, _ => s.armMessage n m

/-- A context takes an unstamped-edge notice under one role; a notice never arms a context (R79). -/
def State.takeNotice (s : State) (n : Fin 16) (v : Notice) (r : Role) : State :=
  match r, (s.ctx n).config.kind with
  | .a, .frequency => s.frequencyNotice n v
  | .a, .interval => s
  | .a, .totalize => s
  | .a, .none => s
  | .b, .frequency => s
  | .b, .interval => s.intervalNoticeB n v
  | .b, .totalize => s.totalNoticeB n v
  | .b, .none => s
  | .arm, _ => s

/-- The message of a stamped item: its stamp is formed as R25 gives. -/
def BusItem.message (i : BusItem) (x : StampInfo) : Message :=
  ⟨i.sense, stampOf i.tick x.fine, x.count, x.generation, x.unlocked, i.edgeTick⟩

/-- The notice of an unstamped item (R27). -/
def BusItem.notice (i : BusItem) : Notice := ⟨i.sense, i.tick, i.edgeTick⟩

/-- The roles a context holds on a channel, in the order of the channel's list (R68, R69; log 9). -/
def State.rolesOn (s : State) (n : Fin 16) (c : Fin 8) : List Role :=
  ((s.listenersOf c).filter fun e => decide (e.1 = n)).map fun e => e.2

/-- The item has no effect on the run (R80): its edge came at or before the tick of the ARM, or it is a notice of a tick before the fulfilment
tick. The stamp and tick of an item may be of the count before a load (R12), so the elapsed ticks decide (log 17). A notice of the fulfilment
tick itself is judged by the tests of its kind's chapter (R29, R90, R112, R130), which keep it out but for an ON_EDGE fulfilment: there R88,
R93, R112, R115, R116, R119, R130 and R131 have it act though R80 gives it no effect, and it acts. One half a wrap or more after the fulfilment
acts, though R13's tick test calls it not later. DESIGN CHOICE, both (log 27). -/
def Live.setsAside (l : Live) (i : BusItem) : Bool :=
  decide (i.edgeTick ≤ l.armElapsed) || (i.stamped.isNone && decide (i.edgeTick < l.fulfilElapsed))

/-- A context takes an item once under each role it holds on the item's channel (R28, R69); one that R80 sets aside it lets pass. -/
def State.applyItem (s : State) (n : Fin 16) (i : BusItem) : State :=
  if (s.ctx n).live.setsAside i then s
  else
    match i.stamped with
    | some x => (s.rolesOn n i.channel).foldl (fun t r => t.takeMessage n (i.message x) r) s
    | none => (s.rolesOn n i.channel).foldl (fun t r => t.takeNotice n i.notice r) s

/-! ## The edge bus -/

/-- Take context `n` from an item's recipients. -/
def BusItem.without (i : BusItem) (n : Fin 16) : BusItem := { i with recipients := i.recipients.filter fun m => decide (m ≠ n) }

/-- The item may reach context `n` now: its edge tick has been reached, and no item of an edge more than 8 ns earlier is still on its way to
the context (R29). An item of the deadline tick that would end an interval whose stop delay is at least its watch waits for the watch expiry
(R125; log 31). -/
def State.mayArrive (s : State) (n : Fin 16) (i : BusItem) : Bool :=
  decide (i.edgeTick ≤ s.clock.elapsed) &&
  !(decide (i.edgeTick = s.clock.elapsed) && (s.ctx n).timesOutFirst s.clock.timescale && (s.ctx n).endsInterval i) &&
  s.bus.all fun j => !(j.recipients.contains n) || decide (i.time ≤ j.time + Config.crossingTime)

/-- The oldest item in flight from a channel to a context (R29). -/
def State.nextItem (s : State) (n : Fin 16) (c : Fin 8) : Option BusItem :=
  s.bus.find? fun i => decide (i.channel = c) && i.recipients.contains n

/-- Remove context `n` from the recipients of its oldest item from channel `c`, and the item once all have taken it. -/
def dropRecipient (n : Fin 16) (c : Fin 8) : List BusItem → List BusItem
  | [] => []
  | i :: rest =>
    if i.channel = c ∧ i.recipients.contains n = true then
      if (i.without n).recipients.isEmpty then rest else i.without n :: rest
    else i :: dropRecipient n c rest

/-- Context `n` takes its oldest item from channel `c` if it is of the form asked for and may arrive now; otherwise nothing happens
(log 3, log 8). -/
def State.deliver (s : State) (n : Fin 16) (c : Fin 8) (stamped : Bool) : State :=
  match s.nextItem n c with
  | none => s
  | some i =>
    if i.stamped.isSome = stamped ∧ s.mayArrive n i = true then
      ({ s with bus := dropRecipient n c s.bus } : State).applyItem n i
    else s

/-- Every item whose delivery delay would otherwise reach 250 ticks is taken by the contexts that have still to take it, oldest item
first, before the tick ends (R28; log 7). -/
def State.overdue (s : State) (i : BusItem) : Bool := decide (i.edgeTick + Config.deliveryLimit ≤ s.clock.elapsed + 1)

/-- See `State.overdue`. -/
def State.deliverOverdue (s : State) : State :=
  (s.bus.filter s.overdue).foldl (fun t i => i.recipients.foldl (fun u n => u.applyItem n i) t)
    { s with bus := s.bus.filter fun i => !s.overdue i }

/-! ## Reference loss and the watch -/

/-- A context takes a reference-loss notice: REF on the gate or batch in progress, where its kind and state say so (R93, R97, R120,
R129, R131, R133, R135). -/
def State.refLoss (s : State) (n : Fin 16) : State :=
  let c := s.ctx n
  let marks : Bool :=
    match c.config.kind, c.state with
    | .frequency, .gating => true
    | .frequency, .closing => true
    | .interval, .gating => true
    | .interval, .starting => c.live.batchOpen
    | .totalize, .gating => true
    | _, _ => false
  if marks then s.modLive n fun l => { l with flags := { l.flags with ref := true } } else s

/-- Whether the state of a context is a watched wait of its kind (section 4.7). -/
def Context.watched (c : Context) : Bool :=
  match c.config.kind, c.state with
  | .frequency, .starting => true
  | .frequency, .closing => true
  | .interval, .starting => true
  | .interval, .gating => true
  | .totalize, .starting => decide (c.config.gateMode = .window)
  | .totalize, .gating => decide (c.config.gateMode ≠ .time)
  | _, _ => false

/-- The watch expires: TIMEOUT is raised and the context acts as its kind gives (R82). -/
def State.watchExpires (s : State) (n : Fin 16) : State :=
  let t := s.raise (contextSource n) causeTimeout
  match (s.ctx n).config.kind with
  | .none => t
  | .frequency => t.frequencyWatch n
  | .interval => t.intervalWatch n
  | .totalize =>
    match (s.ctx n).config.gateMode with
    | .window => t.windowWatch n
    | .time | .manual => t.manualWatch n

/-- The timescale reaches the watch deadline of a context in a watched wait (R82). -/
def State.watch (s : State) (n : Fin 16) : State :=
  if (s.ctx n).watched = true ∧ (s.ctx n).live.deadline = some s.clock.timescale then s.watchExpires n else s

end Sys2Proof.Machine
end

