-- ==== Sys2Proof/Machine/Engine.lean ====
section
/-! DEFINITION. The arithmetic and the endings of calibrations (spec/03_interpolator_calibration.md, sections 3.4 to 3.9). -/

namespace Sys2Proof.Machine

/-- a / b rounded half up (spec/00_scope.md, Rounding). -/
def roundHalfUp (a b : Nat) : Nat := (2 * a + b) / (2 * b)

/-- The cumulative count below a code: H(0) + … + H(r − 1) (R47). -/
def hitsBelow (h : Histogram) (r : Nat) : Nat := ((h.toList.take r).map BitVec.toNat).sum

/-- The fresh value of a code: the middle of its tap, round_half_up((C(r−1) + C(r))·4096 / (2·N)), and 4095 where this gives 4096
(R47). -/
def freshValue (h : Histogram) (hits r : Nat) : Nat :=
  min 4095 (roundHalfUp ((hitsBelow h r + hitsBelow h (r + 1)) * 4096) (2 * hits))

/-- The fresh table (R47). -/
def freshTable (h : Histogram) (hits : Nat) : FineTable := Vector.ofFn fun r => BitVec.ofNat 12 (freshValue h hits r.val)

/-- The correlation test: no bin holds more than N/8 hits (R48). -/
def correlationPasses (h : Histogram) (hits : Nat) : Bool := h.toList.all fun b => decide (b.toNat ≤ hits / 8)

/-- The blended value, floor((3·old + fresh + 2) / 4) (R49). -/
def blendValue (old fresh : BitVec 12) : BitVec 12 := BitVec.ofNat 12 ((3 * old.toNat + fresh.toNat + 2) / 4)

/-- The blended table (R49). -/
def blendTable (old fresh : FineTable) : FineTable := Vector.ofFn fun r => blendValue old[r] fresh[r]

/-- The difference of two fine values. -/
def fineGap (a b : BitVec 12) : Nat := (a.toNat - b.toNat) + (b.toNat - a.toNat)

/-- The largest |fresh(r) − old(r)| over the 256 codes (R44, R49). -/
def drift (old fresh : FineTable) : Nat := (List.finRange 256).foldl (fun m r => max m (fineGap fresh[r] old[r])) 0

/-- Install a table on a channel: all 256 values at once, the generation advanced by one modulo 256 (R36). -/
def Engine.install (e : Engine) (c : Fin 8) (t : FineTable) : Engine :=
  { e with tables := e.tables.set c t, generations := e.generations.set c (e.generations[c] + 1) }

/-- Replace a channel's outcome record (R53). -/
def Engine.setOutcome (e : Engine) (c : Fin 8) (k : CalKind) (o : CalOutcome) (d : Nat) : Engine :=
  { e with outcomes := e.outcomes.set c ⟨some k, o, BitVec.ofNat 12 d⟩ }

/-- Replace the engine. -/
def State.setEngine (s : State) (e : Engine) : State := { s with engine := e }

/-- One hit: the raw code's bin and the hit count each gain one (R43, R45). -/
def Engine.hit (e : Engine) (r : Running) (raw : Byte) : Engine :=
  { e with
    histogram := e.histogram.set raw.toFin (e.histogram[raw.toFin] + 1)
    running := some { r with hits := r.hits + 1 } }

/-- The completion of a long calibration (R44): install or CORRELATED, the histories emptied, the engine idle, and INIT cleared at
channel 7's (R57). -/
def State.longComplete (s : State) (r : Running) : State :=
  let e := s.engine
  let old := e.tables[r.channel]
  let fresh := freshTable e.histogram Config.longHits
  let e := { e with running := none, init := e.init && decide (r.channel ≠ 7) }
  if correlationPasses s.engine.histogram Config.longHits then
    (((s.setEngine ((e.install r.channel fresh).setOutcome r.channel .long .done (drift old fresh))).emptyHistories r.channel).raise
      sourceCalibration causeDone)
  else
    (((s.setEngine (e.setOutcome r.channel .long .correlated 0)).emptyHistories r.channel).raise sourceCalibration causeFailed)

/-- The completion of a short calibration (R49): blend and install with DONE, and DRIFT above the limit in force, or CORRELATED. -/
def State.shortComplete (s : State) (r : Running) : State :=
  let e := s.engine
  let old := e.tables[r.channel]
  let fresh := freshTable e.histogram Config.shortHits
  let d := drift old fresh
  let e := { e with running := none }
  if correlationPasses s.engine.histogram Config.shortHits then
    let t := (s.setEngine ((e.install r.channel (blendTable old fresh)).setOutcome r.channel .short .done d)).raise
      sourceCalibration causeDone
    if e.driftLimit.toNat < d then t.raise sourceCalibration causeDrift else t
  else (s.setEngine (e.setOutcome r.channel .short .correlated 0)).raise sourceCalibration causeFailed

/-- 10 s of elapsed ticks pass before the 8,192nd hit of a short calibration: TIMEOUT and FAILED (R46; log 14, log 15). -/
def State.shortTimeout (s : State) : State :=
  match s.engine.running with
  | none => s
  | some r =>
    if r.kind = .short ∧ r.ticks = Config.shortLimit ∧ r.hits < Config.shortHits then
      (s.setEngine ({ s.engine with running := none, histogram := Vector.replicate 256 0 }.setOutcome r.channel .short .timeout 0)).raise
        sourceCalibration causeFailed
    else s

/-- Auto-initialization: one LONG entry for each channel, 0 to 7 (R57). -/
def Engine.autoInit (e : Engine) : Engine := { e with queue := e.queue ++ (List.finRange 8).map fun c => ⟨c, .long⟩ }

/-- The reference search ends and the engine is signalled once (R10, R57). -/
def State.endSearch (s : State) : State :=
  match s.clock.search with
  | none => s
  | some _ => { s with clock := { s.clock with search := none }, engine := s.engine.autoInit }

/-- 2 s of elapsed ticks have passed without a lock (R10; log 14). -/
def State.searchTimeout (s : State) : State := if s.clock.search = some Config.searchLimit then s.endSearch else s

end Sys2Proof.Machine
end

