-- ==== Sys2Proof/Machine/Tick.lean ====
section
/-! DEFINITION. The coarse tick (R1) and the SYNC load at a tick (R6), with what must have been taken before a tick ends: overdue
deliveries (R28) and every event the present tick reaches (R14; log 7). -/

namespace Sys2Proof.Machine

/-- What the present tick reaches at one context, or has reached at the latest: an arm time, an expiry tick, a watch deadline (R14; log 29
for the expiry tick of a FREQUENCY gate). -/
def State.reachContext (s : State) (n : Fin 16) : State := (((s.armTime n).gateExpiryAtLast n).totalExpiry n).watch n

/-- Everything the present tick reaches and nobody has taken yet, taken before the tick ends (R14, R10, R46; log 7). -/
def State.settleTick (s : State) : State :=
  (((List.finRange 16).foldl (fun t n => t.reachContext n) s.deliverOverdue).shortTimeout).searchTimeout

/-- The counts of elapsed ticks that run through every tick, loads or not (R4): elapsed ticks, reference search, short calibration. -/
def State.elapse (s : State) : State :=
  { s with
    clock := { s.clock with elapsed := s.clock.elapsed + 1, search := s.clock.search.map fun k => k + 1 }
    engine := { s.engine with
      running := s.engine.running.map fun r => if r.kind = .short then { r with ticks := r.ticks + 1 } else r } }

/-- Set the timescale. -/
def State.setTimescale (s : State) (t : Tick) : State := { s with clock := { s.clock with timescale := t } }

/-- Items whose edge tick is still to come take it from the load: they are stamped against the new count (R4, R6). -/
def State.restamp (s : State) (next : Tick) : State :=
  { s with bus := s.bus.map fun i => if s.clock.elapsed < i.edgeTick then { i with tick := next } else i }

/-- The step of the timescale from one tick to the next, raising WRAP from 2^48 − 1 (R1). -/
def State.advance (s : State) : State :=
  let t := s.elapse.setTimescale (s.clock.timescale + 1)
  if s.clock.timescale = BitVec.allOnes 48 then t.raise sourceTimescale causeWrap else t

/-- A coarse tick (R1); the count is held at 0 while RSTN is low (R2). -/
def State.tick (s : State) : State := if s.rstnLow then s else s.settleTick.advance

/-- The SYNC mode becomes OFF (R6). -/
def State.syncOff (s : State) : State := { s with clock := { s.clock with syncMode := .off } }

/-- The tick after a rising edge on SYNC in LOAD_ON_RISE (R6): with no context active the timescale takes the preset in place of
advancing and LOADED is raised; otherwise it advances and REFUSED is raised. In OFF the edge is ignored. -/
def State.syncTick (s : State) : State :=
  if s.rstnLow ∨ s.clock.syncMode = .off then s
  else
    let t := s.settleTick
    if t.anyActive then (t.advance.raise sourceSync causeRefused).syncOff
    else (((t.restamp t.clock.preset).elapse.setTimescale t.clock.preset).raise sourceSync causeLoaded).syncOff

end Sys2Proof.Machine
end

