-- ==== Sys2Proof/Machine/Port.lean ====
section
/-! DEFINITION. The command port (spec/10_command_port.md): frames, the execution of a command, the device commands, the resets. -/

namespace Sys2Proof.Machine

/-- Every command and event of this block answers a next state. -/
abbrev Result := Host.Outcome State Fault Refusal

/-- What a command forms at its execution (R165): the part after it, the result code, the response and the burst it begins. -/
structure Answer where
  state : State
  code : ResultCode
  response : List Byte
  burst : Burst
  deriving DecidableEq, Repr

/-- A taken command with a response of fixed length. -/
def Answer.taken (s : State) (code : ResultCode) (response : List Byte) : Answer := ⟨s, code, response, .none⟩

/-- A refused command: the part unchanged and no response (R165, R168). -/
def Answer.refuse (s : State) (code : ResultCode) : Answer := ⟨s, code, [], .none⟩

/-- CSN falls: the frame begins and the status byte is formed from the part's state at that point (R164, R170). -/
def State.startFrame (s : State) : State :=
  { s with
    port := { s.port with frame := .opened, statusOut := s.statusByte, params := 0, resultOut := none, response := [], burst := .none } }

/-- The frame in which a command executes: the one already begun, or else a frame of its own, begun here (log 4). -/
def State.openFrame (s : State) : State := if s.port.frame = .opened then s else s.startFrame

/-- The port after an execution that follows `params` parameter bytes: the result code and the response are sent, and LAST_REFUSED follows
the code (R164, R169). -/
def Answer.sent (a : Answer) (params : Nat) : State :=
  { a.state with
    port := { a.state.port with
      frame := .executed
      lastRefused := a.code.isRefusal
      params := params
      resultOut := some a.code
      response := a.response
      burst := a.burst } }

/-- A host command of `params` parameter bytes executes, one in its frame (R165); while RSTN is low, or in a frame that is not taken, the
port ignores it (R176). -/
def State.runCommand (s : State) (params : Nat) (run : State → Answer) : State :=
  if s.rstnLow ∨ s.port.frame = .ignored then s else (run s.openFrame).sent params

/-- CSN moves and nothing else: the frame's phase alone changes. -/
def State.setFrame (s : State) (p : FramePhase) : State := { s with port := { s.port with frame := p } }

/-- The frame in progress when RSTN falls is abandoned; CSN stays low, and what follows in the frame is not taken (R176). -/
def FramePhase.cut : FramePhase → FramePhase
  | .none => .none
  | .opened | .executed | .ignored => .ignored

/-! ## Frames -/

/-- FRAME_START: a falling edge of CSN (R164, R170). With CSN low there is none (log 3); while RSTN is low it begins a frame that is not
taken (R176). -/
def execFrameStart (s : State) : Result :=
  .next
    (if s.port.frame = .opened ∨ s.port.frame = .ignored then s
    else if s.rstnLow then s.setFrame .ignored
    else s.startFrame)

/-- FRAME_DISCARD: CSN rises before the command executes; FRAME_ERR is set, unless no rising edge of SCK came, when it was no frame and
sets nothing (R166, R171). The end of a frame that is not taken sets nothing either (R176). -/
def execFrameDiscard (sckEdges : Nat) (s : State) : Result :=
  .next
    (if s.rstnLow ∨ s.port.frame = .ignored then s.setFrame .none
    else
      let t := if sckEdges = 0 then s else s.openFrame
      { t with port := { t.port with frame := .none, frameErr := t.port.frameErr || decide (0 < sckEdges), burst := .none } })

/-- FRAME_END: CSN rises after the execution; a burst ends and no further unit is formed (R166, R174). A frame that is not taken ends here
too (R176). -/
def execFrameEnd (s : State) : Result :=
  .next
    (if s.port.frame = .ignored then s.setFrame .none
    else if s.rstnLow = false ∧ s.port.frame = .executed then { s with port := { s.port with frame := .none, burst := .none } } else s)

/-- UNKNOWN_COMMAND: a code outside the frame table answers UNKNOWN and changes nothing in the part (R167; log 22). -/
def execUnknownCommand (code : Byte) (s : State) : Result :=
  .next (if (paramCount code).isSome then s else s.runCommand 0 fun t => .refuse t .unknown)

/-! ## Device commands -/

/-- NO OPERATION (R173). -/
def execNoOperation (s : State) : Result := .next (s.runCommand 0 fun t => .taken t .ok [])

/-- The response of READ DEVICE STATUS: status copy, reference state, SYNC mode, outstanding-source mask (R172). -/
def State.deviceStatus (s : State) : List Byte :=
  [s.statusByte, refStateCode s.clock.monitor, syncModeCode s.clock.syncMode] ++ bytesOf 3 s.sourceMask.toNat

/-- READ DEVICE STATUS: returns the status copy formed at its execution, then clears FRAME_ERR (R171, R172). -/
def execReadDeviceStatus (s : State) : Result :=
  .next (s.runCommand 0 fun t => .taken { t with port := { t.port with frameErr := false } } .ok t.deviceStatus)

/-- READ IDENTITY (R173). -/
def execReadIdentity (s : State) : Result :=
  .next (s.runCommand 0 fun t =>
    .taken t .ok (bytesOf 2 Config.vendorCode ++ bytesOf 2 Config.familyCode ++ bytesOf 1 Config.revision))

/-! ## Resets -/

/-- The engine after an executed SOFT RESET: a running calibration abandoned with outcome ABORTED, the queue empty, tables, generations,
drift limit and INIT kept (R52; log 15). -/
def Engine.softReset (e : Engine) : Engine :=
  let idle := { e with running := none, queue := [], histogram := Vector.replicate 256 0 }
  match e.running with
  | none => idle
  | some r => idle.setOutcome r.channel r.kind .aborted 0

/-- The part after an executed SOFT RESET (R175). Items and reference-loss notices on their way stay so (R34; log 26). -/
def State.softReset (s : State) : State :=
  { s with
    clock := { s.clock with syncMode := .off, preset := 0 }
    channels := Vector.replicate 8 Channel.reset
    engine := s.engine.softReset
    contexts := Vector.replicate 16 Context.free
    listeners := Vector.replicate 8 []
    quotient := Quotient.reset
    attention := Attention.reset
    port := { s.port with frameErr := false } }

/-- SOFT RESET: NOT_READY during INIT, otherwise the reset of R175. -/
def execSoftReset (s : State) : Result :=
  .next (s.runCommand 0 fun t => if t.engine.init then .refuse t .notReady else .taken t.softReset .ok [])

/-- POWER_ON_RESET: power-up or RSTN low resets every block and holds the timescale at 0 (R2, R176). Items of the edge bus and
reference-loss notices on their way are dropped (log 28), a frame in progress is abandoned, and the commands waiting in the model's queue
stay. -/
def execPowerOnReset (s : State) : Result :=
  .next { State.reset with
    rstnLow := true
    port := { Port.reset with frame := s.port.frame.cut }
    pending := s.pending }

/-- RESET_RELEASE: RSTN rises; the timescale counts from the next tick and the reference search runs (R2, R10). -/
def execResetRelease (s : State) : Result := .next { s with rstnLow := false }

end Sys2Proof.Machine
end

