-- ==== Sys2Proof/Machine/AttentionPort.lean ====
section
/-! DEFINITION. The attention commands (spec/09_attention.md). -/

namespace Sys2Proof.Machine

/-- A priority brought to 0 to 15 (R158). -/
def clampPriority (p : Byte) : BitVec 4 := if 15 < p.toNat then 15 else p.setWidth 4

/-- A threshold brought to 1 to 15 (R159). -/
def clampThreshold (t : Byte) : BitVec 4 := if t = 0 then 1 else if 15 < t.toNat then 15 else t.setWidth 4

/-- A source after SET PRIORITY: places that name no cause held as disabled, event causes whose place is disabled removed (R158). -/
def Source.setPriority (x : Source) (id : Fin 20) (priority mask : Byte) : Source where
  priority := clampPriority priority
  mask := mask.setWidth 4 &&& causesOf id
  events := x.events &&& (mask.setWidth 4 &&& causesOf id)

/-- The response of SET PRIORITY: the priority and the mask in force (R158). -/
def priorityBytes (x : Source) : List Byte := [x.priority.setWidth 8, x.mask.setWidth 8]

/-- SET PRIORITY (R158). -/
def execSetPriority (source priority mask : Byte) (s : State) : Result :=
  .next (s.runCommand 3 fun t =>
    match indexOf 20 source with
    | none => .refuse t .range
    | some id =>
      let x := (t.source id).setPriority id priority mask
      .taken (t.setSource id x) (if 15 < priority.toNat then .clamped else .ok) (priorityBytes x))

/-- SET THRESHOLD (R159). -/
def execSetThreshold (threshold : Byte) (s : State) : Result :=
  .next (s.runCommand 1 fun t =>
    .taken { t with attention := { t.attention with threshold := clampThreshold threshold } }
      (if threshold = 0 ∨ 15 < threshold.toNat then .clamped else .ok) [(clampThreshold threshold).setWidth 8])

/-- CLAIM: the chosen source, its priority and its outstanding set, whose event causes are then cleared; 255, 0 and the empty set when no
source signals (R160). -/
def execClaim (s : State) : Result :=
  .next (s.runCommand 0 fun t =>
    match t.claimChoice with
    | none => .taken t .ok [255, 0, 0]
    | some id =>
      .taken (t.clearEvents id) .ok
        [.ofNat 8 id.val, (t.source id).priority.setWidth 8, (t.outstanding id).setWidth 8])

end Sys2Proof.Machine
end

