-- ==== Sys2Proof/Machine/Calibration.lean ====
section
/-! DEFINITION. The calibration engine (spec/03_interpolator_calibration.md): requests, stopping, reading back, and its own events. -/

namespace Sys2Proof.Machine

/-- A LONG request on one channel, R41's lines in order. -/
def State.requestLong (s : State) (c : Fin 8) : State × ResultCode :=
  let e := s.engine
  if s.channelHeld c then (s, .inUse)
  else if e.phase c = .longWait ∨ e.phase c = .longRun then (s, .already)
  else if e.queued c .short then
    (s.setEngine { e with queue := e.queue.map fun x => if x.channel = c then { x with kind := .long } else x }, .ok)
  else (s.setEngine { e with queue := e.queue ++ [⟨c, .long⟩] }, .ok)

/-- A SHORT request on one channel, R42's lines in order. -/
def State.requestShort (s : State) (c : Fin 8) : State × ResultCode :=
  let e := s.engine
  if !(s.channel c).enable then (s, .notReady)
  else if e.phase c ≠ .none then (s, .already)
  else (s.setEngine { e with queue := e.queue ++ [⟨c, .short⟩] }, .ok)

/-- Treat the masked channels one at a time in channel order, an unmasked one answering OK (R40, R51). -/
def State.perChannel (s : State) (mask : Byte) (f : State → Fin 8 → State × ResultCode) : State × List ResultCode :=
  (List.finRange 8).foldl
    (fun acc c =>
      if mask.getLsbD c.val then
        let r := f acc.1 c
        (r.1, acc.2 ++ [r.2])
      else (acc.1, acc.2 ++ [.ok]))
    (s, [])

/-- CALIBRATE's result code from the answers: the lowest refused channel's refusal, then ALREADY, then OK (R40). -/
def calibrateCode (answers : List ResultCode) : ResultCode :=
  match answers.find? ResultCode.isRefusal with
  | some r => r
  | none => if answers.contains .already then .already else .ok

/-- The eight answer bytes, each repeating the code of a command refused as a whole (R165). -/
def eightAnswers (code : ResultCode) : List Byte := List.replicate 8 code.code

/-- CALIBRATE (R40). -/
def execCalibrate (mask kind : Byte) (s : State) : Result :=
  .next (s.runCommand 2 fun t =>
    if t.engine.init then .taken t .notReady (eightAnswers .notReady)
    else
      match calKindOf kind with
      | none => .taken t .badField (eightAnswers .badField)
      | some k =>
        let r := t.perChannel mask (match k with | .long => State.requestLong | .short => State.requestShort)
        .taken r.1 (calibrateCode r.2) (r.2.map ResultCode.code))

/-- Stop and remove what the engine has of one channel (R51): ALREADY where there is nothing; otherwise the outcome record becomes
ABORTED, with kind LONG if anything long was stopped or removed. A stopped long calibration empties the histories (R31; log 15). -/
def State.abortChannel (s : State) (c : Fin 8) : State × ResultCode :=
  let e := s.engine
  let runs := e.runs c .long || e.runs c .short
  let waits := e.queue.any fun x => decide (x.channel = c)
  if !runs && !waits then (s, .already)
  else
    let kind : CalKind := if e.runs c .long || e.queued c .long then .long else .short
    let e' : Engine :=
      { e with
        running := if runs then none else e.running
        histogram := if runs then Vector.replicate 256 0 else e.histogram
        queue := e.queue.filter fun x => decide (x.channel ≠ c) }
    let t := s.setEngine (e'.setOutcome c kind .aborted 0)
    (if e.runs c .long then t.emptyHistories c else t, .ok)

/-- ABORT CALIBRATION's result code: ALREADY if every masked channel answered ALREADY, OK otherwise and for an empty mask (R51). -/
def abortCode (mask : Byte) (answers : List ResultCode) : ResultCode :=
  if mask ≠ 0 ∧ ((List.finRange 8).all fun c => !(mask.getLsbD c.val) || decide (answers[c.val]? = some .already)) = true then .already
  else .ok

/-- ABORT CALIBRATION (R51). -/
def execAbortCalibration (mask : Byte) (s : State) : Result :=
  .next (s.runCommand 1 fun t =>
    if t.engine.init then .taken t .notReady (eightAnswers .notReady)
    else
      let r := t.perChannel mask State.abortChannel
      .taken r.1 (abortCode mask r.2) (r.2.map ResultCode.code))

/-- The hits collected so far when the engine runs a calibration on the channel, 0 otherwise (R55). -/
def Engine.hitsOn (e : Engine) (c : Fin 8) : Nat :=
  match e.running with
  | none => 0
  | some r => if r.channel = c then r.hits else 0

/-- The channel's place in the calibration queue, 1 for the head, or 0 (R55). -/
def queuePosition (c : Fin 8) : List CalEntry → Nat
  | [] => 0
  | x :: rest =>
    if x.channel = c then 1
    else
      match queuePosition c rest with
      | 0 => 0
      | k + 1 => k + 2

/-- The response of READ CALIBRATION (R55). -/
def State.calibrationBytes (s : State) (c : Fin 8) : List Byte :=
  let e := s.engine
  let o := e.outcomes[c]
  [phaseCode (e.phase c), lastKindCode o.lastKind, outcomeCode o.outcome] ++ bytesOf 2 o.drift.toNat ++ [e.generations[c]] ++
  bytesOf 3 (e.hitsOn c) ++ bytesOf 1 (queuePosition c e.queue) ++ bytesOf 2 e.driftLimit.toNat

/-- READ CALIBRATION (R55). -/
def execReadCalibration (channel : Byte) (s : State) : Result :=
  .next (s.runCommand 1 fun t =>
    match indexOf 8 channel with
    | none => .refuse t .range
    | some c => .taken t .ok (t.calibrationBytes c))

/-- READ TABLE: a copy of the whole table and its generation; the generation is sent, then the copy's values from the start code, for as
long as the frame lasts (R56, R174). -/
def execReadTable (channel start : Byte) (s : State) : Result :=
  .next (s.runCommand 2 fun t =>
    match indexOf 8 channel with
    | none => .refuse t .range
    | some c => ⟨t, .ok, [t.engine.generations[c]], .table t.engine.tables[c] start⟩)

/-- The two bytes of unit `k` of a READ TABLE burst: the copy's value at start + k, wrapping from 255 to 0 (R56). -/
def tableUnit (copy : FineTable) (start : Byte) (k : Nat) : List Byte := bytesOf 2 (fineOf copy (start + BitVec.ofNat 8 k)).toNat

/-- The first `units` units of a READ TABLE burst (R56). -/
def tableUnits (copy : FineTable) (start : Byte) (units : Nat) : List Byte := (List.range units).flatMap (tableUnit copy start)

/-- SET DRIFT LIMIT: above 4095 clamped; the response is the limit in force (R50). -/
def execSetDriftLimit (limit : BitVec 16) (s : State) : Result :=
  .next (s.runCommand 2 fun t =>
    let l : BitVec 12 := if 4095 < limit.toNat then 4095 else limit.setWidth 12
    .taken (t.setEngine { t.engine with driftLimit := l }) (if 4095 < limit.toNat then .clamped else .ok) (bytesOf 2 l.toNat))

/-! ## The engine's own events -/

/-- CALIBRATION_START: the idle engine takes the head entry, with every bin and the hit count 0 (R39; log 25). -/
def execCalibrationStart (s : State) : Result :=
  .next
    (match s.engine.running, s.engine.queue with
    | none, x :: rest =>
      s.setEngine { s.engine with queue := rest, histogram := Vector.replicate 256 0, running := some ⟨x.channel, x.kind, 0, 0⟩ }
    | _, _ => s)

/-- RING_OSCILLATOR_HIT: an oscillator edge is converted during a long calibration that is not complete (R43). -/
def execRingOscillatorHit (raw : Byte) (s : State) : Result :=
  .next
    (match s.engine.running with
    | none => s
    | some r => if r.kind = .long ∧ r.hits < Config.longHits then s.setEngine (s.engine.hit r raw) else s)

/-- LONG_CALIBRATION_COMPLETE: at the 65,536th hit (R44). -/
def execLongCalibrationComplete (s : State) : Result :=
  .next
    (match s.engine.running with
    | none => s
    | some r => if r.kind = .long ∧ r.hits = Config.longHits then s.longComplete r else s)

/-- SHORT_CALIBRATION_COMPLETE: at the 8,192nd hit (R49). -/
def execShortCalibrationComplete (s : State) : Result :=
  .next
    (match s.engine.running with
    | none => s
    | some r => if r.kind = .short ∧ r.hits = Config.shortHits then s.shortComplete r else s)

/-- SHORT_CALIBRATION_TIMEOUT: 10 s of elapsed ticks without 8,192 hits (R46). -/
def execShortCalibrationTimeout (s : State) : Result := .next s.shortTimeout

end Sys2Proof.Machine
end

