-- ==== Sys2Proof/Machine/Channels.lean ====
section
/-! DEFINITION. The input channels (spec/02_input_channels.md): configuring, reading, and an edge on a pin. -/

namespace Sys2Proof.Machine

/-- A holdoff brought to 0 to 4095 (R17). -/
def clampHoldoff (h : BitVec 16) : BitVec 12 := if 4095 < h.toNat then 4095 else h.setWidth 12

/-- A taken CONFIGURE CHANNEL: the configuration replaced, both counters 0, both histories empty (R18). -/
def State.configure (s : State) (c : Fin 8) (en : Bool) (pol : Polarity) (h : BitVec 12) : State :=
  s.setChannel c ⟨en, pol, h, 0, 0, none, none, []⟩

/-- CONFIGURE CHANNEL: the checks of R17 in their order, then R18. -/
def execConfigureChannel (channel enable polarity : Byte) (holdoff : BitVec 16) (s : State) : Result :=
  .next (s.runCommand 5 fun t =>
    match indexOf 8 channel with
    | none => .refuse t .range
    | some c =>
      match onOffOf enable, polarityOf polarity with
      | some en, some pol =>
        if t.channelHeld c ∨ t.engine.phase c ≠ .none then .refuse t .inUse
        else .taken (t.configure c en pol (clampHoldoff holdoff)) (if 4095 < holdoff.toNat then .clamped else .ok) []
      | _, _ => .refuse t .badField)

/-- The response of READ CHANNEL: configuration, phase and both counters sampled at the latest tick (R33). -/
def State.channelBytes (s : State) (c : Fin 8) : List Byte :=
  let x := s.channel c
  [onOffCode x.enable, polarityCode x.polarity] ++ bytesOf 2 x.holdoff.toNat ++ [phaseCode (s.engine.phase c)] ++
  bytesOf 6 (x.sampleEdge s.clock.elapsed .rise).toNat ++ bytesOf 6 (x.sampleEdge s.clock.elapsed .fall).toNat

/-- READ CHANNEL (R33). -/
def execReadChannel (channel : Byte) (s : State) : Result :=
  .next (s.runCommand 1 fun t =>
    match indexOf 8 channel with
    | none => .refuse t .range
    | some c => .taken t .ok (t.channelBytes c))

/-! ## An edge on a pin -/

/-- The channel takes edges from its pin: RSTN high, enabled, and not in LONG_RUN (R30, R31, R34). -/
def State.takesEdges (s : State) (c : Fin 8) : Bool :=
  !s.rstnLow && (s.channel c).enable && decide (s.engine.phase c ≠ .longRun)

/-- The holdoff rejects an admitted edge whose edge tick lies H ticks or less after that of the last accepted edge; H of 0 accepts every
edge (R21). -/
def Channel.holdsOff (x : Channel) (edgeTick : Nat) : Bool :=
  match x.holdoffHistory edgeTick with
  | none => false
  | some d => decide (0 < x.holdoff.toNat) && decide (d ≤ x.holdoff.toNat)

/-- The conditioner accepts the edge: its sense is admitted (R20) and the holdoff does not reject it (R21). -/
def Channel.accepts (x : Channel) (sense : EdgeSense) (edgeTick : Nat) : Bool :=
  x.polarity.admits sense && !x.holdsOff edgeTick

/-- An accepted edge outside the stamp-blind time, more than 8 ns after the last stamped edge, is stamped (R24). -/
def Channel.stamps (x : Channel) (time : Nat) : Bool :=
  match x.lastStamped with
  | none => true
  | some t => decide (t + Config.blindTime < time)

/-- The channel after an accepted edge: counted in the counter of its sense, the holdoff history restarted at its edge tick (R21, R22). -/
def Channel.countEdge (x : Channel) (sense : EdgeSense) (edgeTick : Nat) : Channel :=
  { x with
    rising := if sense = .rise then x.rising + 1 else x.rising
    falling := if sense = .fall then x.falling + 1 else x.falling
    lastAccepted := some edgeTick
    log := ⟨edgeTick, sense⟩ :: x.log }

/-- The counter of an edge's own sense. -/
def Channel.counter (x : Channel) : EdgeSense → EdgeCount
  | .rise => x.rising
  | .fall => x.falling

/-- What the stamper puts in the message: the fine value of the raw code in the table in force, the count, the generation and the unlocked
marker (R9, R25, R26). -/
def State.convert (s : State) (c : Fin 8) (sense : EdgeSense) (raw : Byte) : StampInfo where
  fine := fineOf s.engine.tables[c] raw
  count := (s.channel c).counter sense
  generation := s.engine.generations[c]
  unlocked := !s.locked

/-- A stamped edge is a hit while a short calibration runs on the channel and is not complete (R25, R45). -/
def State.shortHit (s : State) (c : Fin 8) (raw : Byte) : State :=
  match s.engine.running with
  | none => s
  | some r =>
    if r.channel = c ∧ r.kind = .short ∧ r.hits < Config.shortHits then s.setEngine (s.engine.hit r raw) else s

/-- The contexts on a channel's listener list, each once (R28). -/
def State.recipientsOf (s : State) (c : Fin 8) : List (Fin 16) :=
  ((List.finRange 16).filter fun n => (s.listenersOf c).any fun e => decide (e.1 = n))

/-- Put an item on the edge bus for every context on the channel's list; with an empty list it reaches no context (R26, R28). -/
def State.emit (s : State) (i : BusItem) : State :=
  if (s.recipientsOf i.channel).isEmpty then s
  else { s with bus := s.bus ++ [{ i with recipients := s.recipientsOf i.channel }] }

/-- An accepted edge: counted, stamped or not, and put on the edge bus (R22, R24, R26, R27). -/
def State.acceptEdge (s : State) (c : Fin 8) (sense : EdgeSense) (raw : Byte) (edgeTick time : Nat) : State :=
  let x := (s.channel c).countEdge sense edgeTick
  let next := s.clock.timescale + 1
  if (s.channel c).stamps time then
    let t := s.setChannel c { x with lastStamped := some time }
    (t.shortHit c raw).emit ⟨c, sense, next, some (t.convert c sense raw), edgeTick, time, []⟩
  else (s.setChannel c x).emit ⟨c, sense, next, none, edgeTick, time, []⟩

/-- INPUT_EDGE: an edge on a pin between the latest tick and the next, which is its edge tick, `before` su ahead of it (R20 to R27;
log 5). An edge that fails either filter leaves no trace. -/
def execInputEdge (c : Fin 8) (sense : EdgeSense) (raw : Byte) (before : BitVec 12) (s : State) : Result :=
  let edgeTick := s.clock.elapsed + 1
  .next
    (if s.takesEdges c && (s.channel c).accepts sense edgeTick then
      s.acceptEdge c sense raw edgeTick (4096 * edgeTick - before.toNat)
    else s)

end Sys2Proof.Machine
end

