-- ==== Sys2Proof/Machine/Contexts.lean ====
section
/-! DEFINITION. The context commands (spec/04_measurement_contexts.md, and CLOSE GATE of spec/07_totalizing.md) and the ticks a context
waits for. -/

namespace Sys2Proof.Machine

/-! ## Listener lists -/

/-- The entries of context `n` on channel `c`, in the order A, B, ARM (R68). -/
def entriesOn (cfg : CtxConfig) (n : Fin 16) (c : Fin 8) : List (Fin 16 × Role) :=
  (cfg.roles.filter fun r => decide (r.2.1 = c)).map fun r => (n, r.1)

/-- Remove every entry of a context from a list; the others keep their places (R69). -/
def removeEntries (n : Fin 16) (l : List (Fin 16 × Role)) : List (Fin 16 × Role) := l.filter fun e => decide (e.1 ≠ n)

/-- Put a context's entries in their place by context number (R68, R69). -/
def insertEntries (n : Fin 16) (new l : List (Fin 16 × Role)) : List (Fin 16 × Role) :=
  l.takeWhile (fun e => decide (e.1 < n)) ++ new ++ l.dropWhile (fun e => decide (e.1 < n))

/-- The listener lists rebuilt for a new configuration of a context; kind NONE leaves it no entry (R69, R84). -/
def State.relist (s : State) (n : Fin 16) (cfg : CtxConfig) : State :=
  { s with listeners := Vector.ofFn fun c => insertEntries n (entriesOn cfg n c) (removeEntries n (s.listenersOf c)) }

/-! ## Definition, change, retirement -/

/-- A taken DEFINE CONTEXT: configuration replaced, record, total, sequence, position, LATE pending and live figures cleared, the source's
causes cleared, the lists rebuilt, the context IDLE (R71, R162). -/
def State.define (s : State) (n : Fin 16) (cfg : CtxConfig) : State :=
  ((s.setCtx n { Context.free with config := cfg, state := .idle, slot := (s.ctx n).slot }).clearEvents (contextSource n)).relist n cfg

/-- DEFINE CONTEXT: the checks of R70 in their order, then R71; CLAMPED where R72 clamped a held field. -/
def execDefineContext (context : Byte) (block : ConfigBlock) (s : State) : Result :=
  .next (s.runCommand 46 fun t =>
    match indexOf 16 context with
    | none => .refuse t .range
    | some n =>
      if (t.ctx n).state ≠ .free ∧ (t.ctx n).state ≠ .idle then .refuse t .state
      else
        match judgeBlock block with
        | .refuse code => .refuse t code
        | .take cfg clamped => .taken (t.define n cfg) (if clamped then .clamped else .ok) [])

/-- A taken MODIFY CONTEXT: all selected changes together; a selected pattern sets its position to 0, a selected clearing sets T to 0
(R62, R64, R73, R74). -/
def Context.modify (c : Context) (sel : BitVec 16) (cfg : CtxConfig) : Context :=
  { c with
    config := cfg
    position := if selects sel 1 then 0 else c.position
    total := if selects sel 6 then 0 else c.total }

/-- MODIFY CONTEXT: the checks of R73 in their order. -/
def execModifyContext (context : Byte) (selection : BitVec 16) (values : ModifyBlock) (s : State) : Result :=
  .next (s.runCommand 34 fun t =>
    match indexOf 16 context with
    | none => .refuse t .range
    | some n =>
      if (t.ctx n).state = .free then .refuse t .state
      else
        match judgeModify (t.ctx n).config selection values with
        | .refuse code => .refuse t code
        | .take cfg clamped =>
          .taken (t.modCtx n fun c => c.modify selection cfg) (if clamped then .clamped else .ok) [])

/-- A taken RETIRE: every figure, the record and the configuration cleared, the source's causes cleared, the entries removed, FREE (R84,
R162). The slot of an IDLE context is EMPTY by R66 and is left as it stands. -/
def State.retire (s : State) (n : Fin 16) : State :=
  ((s.setCtx n { Context.free with slot := (s.ctx n).slot }).clearEvents (contextSource n)).relist n CtxConfig.zero

/-- RETIRE: an IDLE context is freed; STATE in any other state (R84). -/
def execRetire (context : Byte) (s : State) : Result :=
  .next (s.runCommand 1 fun t =>
    match indexOf 16 context with
    | none => .refuse t .range
    | some n =>
      if (t.ctx n).state ≠ .idle then .refuse t .state
      else
        .taken (t.retire n) .ok [])

/-! ## Arming -/

/-- ARM's checks 4 to 6 on an IDLE context (R76): service (R19), senses against polarities (R32), and the window's channel B. -/
def State.armRefusal (s : State) (n : Fin 16) : Option ResultCode :=
  let c := (s.ctx n).config
  if c.roles.any (fun r => !s.inService r.2.1) then some .notReady
  else if c.roles.any (fun r => !(s.channel r.2.1).polarity.admitsSense r.2.2) then some .badField
  else if c.kind = .totalize ∧ c.gateMode = .window ∧ ((s.channel c.channelB).polarity ≠ .both ∨ c.senseB = .any) then some .badField
  else none

/-- The preparation of an ARM: live figures cleared, the pattern position 0, LATE pending clear, the ARM's tick kept for R79's test (R77;
log 17). -/
def State.prepare (s : State) (n : Fin 16) : State :=
  s.modCtx n fun c => { c with live := { Live.zero with armTick := s.clock.timescale, armElapsed := s.clock.elapsed }, position := 0, latePending := false }

/-- A taken ARM: the context is prepared and takes its arm mode (R77, R78, R79). -/
def State.takeArm (s : State) (n : Fin 16) (armTime : Tick) : State :=
  let t := s.prepare n
  match (s.ctx n).config.armMode with
  | .immediate => t.fulfilNow n
  | .onEdge => t.modCtx n fun c => { c with state := .armed }
  | .atTime =>
    let t := t.modCtx n fun c => { c with config := { c.config with armTime := armTime } }
    match armTimeTest armTime s.clock.timescale with
    | .present => t.fulfilNow n
    | .past => (t.modCtx n fun c => { c with latePending := true }).fulfilNow n
    | .future => t.modCtx n fun c => { c with state := .armed }

/-- ARM: the checks of R76 in their order, then R77. -/
def execArm (context : Byte) (armTime : Tick) (s : State) : Result :=
  .next (s.runCommand 7 fun t =>
    match indexOf 16 context with
    | none => .refuse t .range
    | some n =>
      if t.engine.init then .refuse t .notReady
      else if (t.ctx n).state ≠ .idle then .refuse t .state
      else
        match t.armRefusal n with
        | some code => .refuse t code
        | none => .taken (t.takeArm n armTime) .ok [])

/-! ## Stopping -/

/-- Take a context's closed gates away: its queue entry and slot, and its work in the unit voided (R83, R139, R144). -/
def State.dropGates (s : State) (n : Fin 16) : State :=
  let t := s.modCtx n fun c => { c with slot := none }
  { t with
    quotient :=
      { queue := t.quotient.queue.filter fun m => decide (m ≠ n)
        work := t.quotient.work.map fun w => if w.context = n then { w with void := true } else w } }

/-- ABORT on an active or SETTLING context (R83): live figures discarded, LATE pending clear, closed gates taken away, IDLE (log 13). -/
def State.abortRun (s : State) (n : Fin 16) : State :=
  (s.modCtx n fun c => { c with live := Live.zero, latePending := false, state := .idle }).dropGates n

/-- ABORT: STATE on a FREE context, OK without effect on an IDLE one (R67, R83). -/
def execAbort (context : Byte) (s : State) : Result :=
  .next (s.runCommand 1 fun t =>
    match indexOf 16 context with
    | none => .refuse t .range
    | some n =>
      if (t.ctx n).state = .free then .refuse t .state
      else if (t.ctx n).state = .idle then .taken t .ok []
      else .taken (t.abortRun n) .ok [])

/-- CLOSE GATE: closes the open gate of a TOTALIZE MANUAL context at the latest coarse tick, STATE otherwise (R133). -/
def execCloseGate (context : Byte) (s : State) : Result :=
  .next (s.runCommand 1 fun t =>
    match indexOf 16 context with
    | none => .refuse t .range
    | some n =>
      let c := t.ctx n
      if c.config.kind = .totalize ∧ c.config.gateMode = .manual ∧ c.state = .gating then
        .taken (t.totalClose n t.now (t.tickFlags n)) .ok []
      else .refuse t .state)

/-! ## Reading a context -/

/-- The configuration block that READ CONTEXT returns (R85, R178). -/
def CtxConfig.toBlock (c : CtxConfig) : ConfigBlock where
  kind := kindCode c.kind
  channelA := .ofNat 8 c.channelA.val
  senseA := senseCode c.senseA
  channelB := .ofNat 8 c.channelB.val
  senseB := senseCode c.senseB
  armMode := armModeCode c.armMode
  armChannel := .ofNat 8 c.armChannel.val
  armSense := senseCode c.armSense
  runMode := runModeCode c.runMode
  gateMode := gateModeCode c.gateMode
  totalMode := totalModeCode c.totalMode
  limitEnable := onOffCode c.limitEnable
  passCount := c.passCount
  skipCount := c.skipCount
  gateTime := c.gateTime
  averaging := c.averaging
  stopDelay := c.stopDelay
  watch := c.watch
  lowLimit := c.lowLimit
  highLimit := c.highLimit

/-- The 58 bytes of READ CONTEXT (R85, R178). -/
def State.contextBytes (s : State) (n : Fin 16) : List Byte :=
  let c := s.ctx n
  [ctxStateCode c.state] ++ configBlockBytes c.config.toBlock ++ bytesOf 6 c.config.armTime.toNat ++ bytesOf 2 c.seq.toNat ++
  [c.position, onOffCode c.latePending, onOffCode c.slot.isSome, onOffCode (s.unitHolds n)]

/-- READ CONTEXT (R85). -/
def execReadContext (context : Byte) (s : State) : Result :=
  .next (s.runCommand 1 fun t =>
    match indexOf 16 context with
    | none => .refuse t .range
    | some n => .taken t .ok (t.contextBytes n))

/-! ## Deliveries and reached ticks -/

/-- STAMPED_EDGE_MESSAGE: a context takes a stamped-edge message (R28; log 8). -/
def execStampedEdgeMessage (n : Fin 16) (c : Fin 8) (s : State) : Result := .next (s.deliver n c true)

/-- UNSTAMPED_EDGE_NOTICE: a context takes an unstamped-edge notice (R27, R28; log 8). -/
def execUnstampedEdgeNotice (n : Fin 16) (c : Fin 8) (s : State) : Result := .next (s.deliver n c false)

/-- ARM_TIME_REACHED: the timescale reaches the arm time of an ARMED AT_TIME context (R78). -/
def execArmTimeReached (n : Fin 16) (s : State) : Result := .next (s.armTime n)

/-- GATE_TIME_EXPIRY: the timescale reaches the expiry tick of a FREQUENCY context in GATING (R94). -/
def execGateTimeExpiry (n : Fin 16) (s : State) : Result := .next (s.gateExpiry n)

/-- TOTALIZE_TIME_EXPIRY: the timescale reaches the expiry tick of a TOTALIZE TIME context (R129). -/
def execTotalizeTimeExpiry (n : Fin 16) (s : State) : Result := .next (s.totalExpiry n)

/-- WATCH_EXPIRY: the timescale reaches a context's watch deadline (R82). -/
def execWatchExpiry (n : Fin 16) (s : State) : Result := .next (s.watch n)

end Sys2Proof.Machine
end

