-- ==== Sys2Proof/Machine/Results.lean ====
section
/-! DEFINITION. The quotient unit (R140 to R144) and the reading of results and live figures (R151, R153, R179). -/

namespace Sys2Proof.Machine

/-! ## The quotient unit -/

/-- A quotient rounded half up. -/
def quotientHalfUp (a b : Nat) : Nat := (2 * a + b) / (2 * b)

/-- The frequency exceeds 2^64 − 1: the exact quotient E·scale/span is greater (R142). -/
def frequencySaturates (edges : EdgeCount) (span : Stamp) : Bool :=
  decide (((2 ^ 64 - 1) * span.toNat) < edges.toNat * Config.frequencyScale)

/-- The frequency in nHz (R142); a span of 0, which no gate has, gives a free value (log 16). -/
def frequencyOf (edges : EdgeCount) (span : Stamp) : BitVec 64 :=
  if span = 0 then Config.frequencyOfNoSpan edges
  else if frequencySaturates edges span then BitVec.allOnes 64
  else BitVec.ofNat 64 (quotientHalfUp (edges.toNat * Config.frequencyScale) span.toNat)

/-- The interval mean in su (R143); a count of 0, which no batch has, gives a free value (log 16). -/
def meanOf (sum : BitVec 80) (count : BitVec 16) : BitVec 64 :=
  if count = 0 then Config.meanOfNoIntervals sum else BitVec.ofNat 64 (quotientHalfUp sum.toNat count.toNat)

/-- The figures that a computation posts (R142, R143, R150). -/
def RawFigures.computed : RawFigures → Figures
  | .frequency e span start => .frequency e span (frequencyOf e span) start
  | .interval sum count lo hi first => .interval count (meanOf sum count) lo hi first

/-- The primary value of a computation (R148). -/
def RawFigures.primary : RawFigures → Nat
  | .frequency e span _ => (frequencyOf e span).toNat
  | .interval sum count _ _ _ => (meanOf sum count).toNat

/-- SAT: only a frequency above 2^64 − 1 saturates (R142, R143). -/
def RawFigures.saturates : RawFigures → Bool
  | .frequency e span _ => frequencySaturates e span
  | .interval _ _ _ _ _ => false

/-- QUOTIENT_TAKE: the idle unit takes the head entry: its slot is copied and set EMPTY, the entry leaves the queue (R140; log 25). -/
def execQuotientTake (s : State) : Result :=
  .next
    (match s.quotient.work, s.quotient.queue with
    | none, n :: rest =>
      match (s.ctx n).slot with
      | none => s
      | some g => { s.modCtx n (fun c => { c with slot := none }) with quotient := ⟨rest, some ⟨n, g, false⟩⟩ }
    | _, _ => s)

/-- The end of a computation: void work is discarded, other work posted (R141, R149). -/
def State.completeWork (s : State) (w : Work) : State :=
  let t := { s with quotient := { s.quotient with work := none } }
  if w.void then t
  else
    t.post w.context w.gate.figures.computed w.gate.seq { w.gate.flags with sat := w.gate.figures.saturates }
      w.gate.figures.primary

/-- QUOTIENT_COMPLETE: the computation completes (R141). -/
def execQuotientComplete (s : State) : Result :=
  .next (match s.quotient.work with | none => s | some w => s.completeWork w)

/-! ## READ RESULT -/

/-- The indications byte: bit 0 fresh, bit 1 overrun (R179). -/
def ResultRecord.indications (r : ResultRecord) : Byte := flagBit 8 0 r.fresh ||| flagBit 8 1 r.overrun

/-- Zero bytes. -/
def zeros (n : Nat) : List Byte := List.replicate n 0

/-- The kind, sequence number and flags of a record of a kind (R179). -/
def ResultRecord.header (r : ResultRecord) (k : Kind) : List Byte :=
  [r.indications, kindCode k] ++ bytesOf 2 r.seq.toNat ++ bytesOf 2 r.flags.bits.toNat

/-- The 41 bytes of a result record (R179). -/
def ResultRecord.bytes (r : ResultRecord) (n : Fin 16) : List Byte :=
  let number : Byte := .ofNat 8 n.val
  match r.figures with
  | .none => number :: zeros 40
  | .frequency e span f start =>
    number :: r.header .frequency ++ bytesOf 6 e.toNat ++ bytesOf 8 span.toNat ++ bytesOf 8 f.toNat ++ bytesOf 8 start.toNat ++ zeros 4
  | .interval count mean lo hi first =>
    number :: r.header .interval ++ bytesOf 2 count.toNat ++ bytesOf 8 mean.toNat ++ bytesOf 8 lo.toNat ++ bytesOf 8 hi.toNat ++
    bytesOf 8 first.toNat
  | .totalize e total opened closed =>
    number :: r.header .totalize ++ bytesOf 6 e.toNat ++ bytesOf 6 total.toNat ++ bytesOf 6 opened.toNat ++ bytesOf 6 closed.toNat ++
    zeros 10

/-- READ RESULT: OK, and a burst of records from the starting context begins (R151). -/
def execReadResult (context : Byte) (s : State) : Result :=
  .next (s.runCommand 1 fun t =>
    match indexOf 16 context with
    | none => .refuse t .range
    | some n => ⟨t, .ok, [], .results n⟩)

/-- The snapshot of a record: its bytes join the response as they stood, its fresh and overrun indications are cleared, and the burst goes
on with the next context, wrapping from 15 to 0 (R151). -/
def State.snapshot (s : State) (n : Fin 16) : State :=
  let c := s.ctx n
  let t := s.setCtx n { c with record := { c.record with fresh := false, overrun := false } }
  { t with port := { t.port with response := t.port.response ++ c.record.bytes n, burst := .results (n + 1) } }

/-- RESULT_RECORD_SNAPSHOT: the first byte of the next record of a READ RESULT burst leaves the port (R151). -/
def execResultRecordSnapshot (s : State) : Result :=
  .next (if s.rstnLow then s else match s.port.burst with | .results n => s.snapshot n | .none => s | .table _ _ => s)

/-! ## READ LIVE -/

/-- Events since start of a FREQUENCY gate: the tally for sense ANY, otherwise the sampled counter less the start count (R88, R153). -/
def State.eventsSinceStart (s : State) (n : Fin 16) : EdgeCount :=
  let c := s.ctx n
  if c.state = .gating ∨ c.state = .closing then
    if c.config.senseA = .any then c.live.edgeTally
    else (s.channel c.config.channelA).sample s.clock.elapsed c.config.senseA - c.live.startCount
  else 0

/-- Ticks since start of a FREQUENCY gate (R153). -/
def State.ticksSinceStart (s : State) (n : Fin 16) : Tick :=
  let c := s.ctx n
  if c.state = .gating ∨ c.state = .closing then s.clock.timescale - tickOfStamp c.live.startStamp else 0

/-- Count since open of a TOTALIZE gate (R153). -/
def State.countSinceOpen (s : State) (n : Fin 16) : EdgeCount :=
  if (s.ctx n).state = .gating then s.boundaryCount n s.now - (s.ctx n).live.openCount else 0

/-- The figures of READ LIVE by kind, before the zeros that fill the area (R153, R179). -/
def State.liveFigures (s : State) (n : Fin 16) : List Byte :=
  let c := s.ctx n
  match c.config.kind with
  | .none => []
  | .frequency =>
    bytesOf 8 c.live.startStamp.toNat ++ bytesOf 6 c.live.expiryTick.toNat ++ bytesOf 6 (s.eventsSinceStart n).toNat ++
    bytesOf 6 (s.ticksSinceStart n).toNat
  | .interval =>
    bytesOf 2 c.live.batchCount.toNat ++ bytesOf 10 c.live.batchSum.toNat ++ bytesOf 8 c.live.batchMin.toNat ++
    bytesOf 8 c.live.batchMax.toNat ++ bytesOf 8 c.live.firstStart.toNat ++ bytesOf 2 c.live.batchSize.toNat
  | .totalize => bytesOf 6 c.live.openTick.toNat ++ bytesOf 6 (s.countSinceOpen n).toNat ++ bytesOf 6 c.total.toNat

/-- The 49 bytes of READ LIVE (R153, R179). -/
def State.liveBytes (s : State) (n : Fin 16) : List Byte :=
  let c := s.ctx n
  let figures := s.liveFigures n
  [ctxStateCode c.state, kindCode c.config.kind] ++ bytesOf 2 c.live.flags.bits.toNat ++ [onOffCode c.live.deadline.isSome] ++
  bytesOf 6 (c.live.deadline.getD 0).toNat ++ figures ++ zeros (38 - figures.length)

/-- READ LIVE (R153). -/
def execReadLive (context : Byte) (s : State) : Result :=
  .next (s.runCommand 1 fun t =>
    match indexOf 16 context with
    | none => .refuse t .range
    | some n => .taken t .ok (t.liveBytes n))

end Sys2Proof.Machine
end

