-- ==== Sys2Proof/Machine/Timescale.lean ====
section
/-! DEFINITION. The commands and events of the timescale block (spec/01_timescale_reference_and_stamps.md). -/

namespace Sys2Proof.Machine

/-- READ TIMESCALE: the value of the latest coarse tick in six bytes (R3). -/
def execReadTimescale (s : State) : Result :=
  .next (s.runCommand 0 fun t => .taken t .ok (bytesOf 6 t.clock.timescale.toNat))

/-- LOAD TIMESCALE: IN_USE while any context is active; otherwise the timescale takes the value at once, and an edge whose edge tick is
still to come is stamped against the new count (R4). -/
def execLoadTimescale (value : Tick) (s : State) : Result :=
  .next (s.runCommand 6 fun t =>
    if t.anyActive then .refuse t .inUse else .taken ((t.restamp (value + 1)).setTimescale value) .ok [])

/-- SET SYNC: BAD_FIELD for a mode outside its set; otherwise mode and preset are replaced (R5). -/
def execSetSync (mode : Byte) (preset : Tick) (s : State) : Result :=
  .next (s.runCommand 7 fun t =>
    match syncModeOf mode with
    | none => .refuse t .badField
    | some m => .taken { t with clock := { t.clock with syncMode := m, preset := preset } } .ok [])

/-- COARSE_TICK: the timescale advances by one, and from 2^48 − 1 it steps to 0 and raises WRAP (R1, R2; log 7, log 10). -/
def execCoarseTick (s : State) : Result := .next s.tick

/-- TIMESCALE_WRAP: the tick from 2^48 − 1 to 0, which raises WRAP on source 16; at any other count there is no wrap (R1; log 10). -/
def execTimescaleWrap (s : State) : Result :=
  .next (if s.clock.timescale = BitVec.allOnes 48 then s.tick else s)

/-- SYNC_EDGE: a rising edge on SYNC, taken at the first coarse tick after it (R6; log 11). -/
def execSyncEdge (s : State) : Result := .next s.syncTick

/-- LOCK_ACHIEVED: the monitor goes to LOCKED, REGAINED is raised out of HOLDOVER, and the first lock ends a reference search in progress
(R7, R10; log 18). -/
def execLockAchieved (s : State) : Result :=
  .next
    (if s.rstnLow then s
    else
      let t := { s with clock := { s.clock with monitor := .locked } }
      match s.clock.monitor with
      | .searching => t.endSearch
      | .locked => s
      | .holdover => t.raise sourceReference causeRegained)

/-- One more reference-loss notice on its way to every context (R9). -/
def State.sendLossNotices (s : State) : State := { s with lossNotices := Vector.ofFn fun n => s.lossNotices[n] + 1 }

/-- LOCK_LOST: a LOCKED monitor goes to HOLDOVER, raises LOST and sends a reference-loss notice to every context (R7, R9; log 18). -/
def execLockLost (s : State) : Result :=
  .next
    (if s.rstnLow then s
    else
      match s.clock.monitor with
      | .searching => s
      | .locked =>
        (({ s with clock := { s.clock with monitor := .holdover } } : State).raise sourceReference causeLost).sendLossNotices
      | .holdover => s)

/-- REFERENCE_LOSS_NOTICE: a context takes a notice on its way to it (R9; log 3). When it takes it is the queue's to say, however late: the
manual gives the notice no delivery delay. DESIGN CHOICE (log 30). -/
def execReferenceLossNotice (n : Fin 16) (s : State) : Result :=
  .next
    (if s.lossNotices[n] = 0 then s
    else ({ s with lossNotices := s.lossNotices.set n (s.lossNotices[n] - 1) } : State).refLoss n)

/-- REFERENCE_SEARCH_TIMEOUT: 2 s of elapsed ticks without a lock end the search (R10). -/
def execReferenceSearchTimeout (s : State) : Result := .next s.searchTimeout

end Sys2Proof.Machine
end

