-- ==== Sys2Proof/Machine/Dispatch.lean ====
section
/-! DEFINITION. The meaning of every command, one arm each. -/

namespace Sys2Proof.Machine

/-- A command's effect on everything but the queue of waiting commands. -/
def exec (i : Instr) (s : State) : Host.Outcome State Fault Refusal :=
  match i with
  | .noOperation => Sys2Proof.Machine.execNoOperation s
  | .readDeviceStatus => Sys2Proof.Machine.execReadDeviceStatus s
  | .readIdentity => Sys2Proof.Machine.execReadIdentity s
  | .softReset => Sys2Proof.Machine.execSoftReset s
  | .readTimescale => Sys2Proof.Machine.execReadTimescale s
  | .loadTimescale value => Sys2Proof.Machine.execLoadTimescale value s
  | .setSync mode preset => Sys2Proof.Machine.execSetSync mode preset s
  | .configureChannel channel enable polarity holdoff => Sys2Proof.Machine.execConfigureChannel channel enable polarity holdoff s
  | .readChannel channel => Sys2Proof.Machine.execReadChannel channel s
  | .calibrate mask kind => Sys2Proof.Machine.execCalibrate mask kind s
  | .abortCalibration mask => Sys2Proof.Machine.execAbortCalibration mask s
  | .readCalibration channel => Sys2Proof.Machine.execReadCalibration channel s
  | .readTable channel start => Sys2Proof.Machine.execReadTable channel start s
  | .setDriftLimit limit => Sys2Proof.Machine.execSetDriftLimit limit s
  | .defineContext context block => Sys2Proof.Machine.execDefineContext context block s
  | .modifyContext context selection values => Sys2Proof.Machine.execModifyContext context selection values s
  | .arm context armTime => Sys2Proof.Machine.execArm context armTime s
  | .abort context => Sys2Proof.Machine.execAbort context s
  | .closeGate context => Sys2Proof.Machine.execCloseGate context s
  | .retire context => Sys2Proof.Machine.execRetire context s
  | .readResult context => Sys2Proof.Machine.execReadResult context s
  | .readLive context => Sys2Proof.Machine.execReadLive context s
  | .readContext context => Sys2Proof.Machine.execReadContext context s
  | .setPriority source priority mask => Sys2Proof.Machine.execSetPriority source priority mask s
  | .setThreshold threshold => Sys2Proof.Machine.execSetThreshold threshold s
  | .claim => Sys2Proof.Machine.execClaim s
  | .unknownCommand code => Sys2Proof.Machine.execUnknownCommand code s
  | .frameStart => Sys2Proof.Machine.execFrameStart s
  | .frameDiscard sckEdges => Sys2Proof.Machine.execFrameDiscard sckEdges s
  | .frameEnd => Sys2Proof.Machine.execFrameEnd s
  | .resultRecordSnapshot => Sys2Proof.Machine.execResultRecordSnapshot s
  | .powerOnReset => Sys2Proof.Machine.execPowerOnReset s
  | .resetRelease => Sys2Proof.Machine.execResetRelease s
  | .coarseTick => Sys2Proof.Machine.execCoarseTick s
  | .timescaleWrap => Sys2Proof.Machine.execTimescaleWrap s
  | .syncEdge => Sys2Proof.Machine.execSyncEdge s
  | .lockAchieved => Sys2Proof.Machine.execLockAchieved s
  | .lockLost => Sys2Proof.Machine.execLockLost s
  | .referenceLossNotice n => Sys2Proof.Machine.execReferenceLossNotice n s
  | .referenceSearchTimeout => Sys2Proof.Machine.execReferenceSearchTimeout s
  | .inputEdge c sense raw before => Sys2Proof.Machine.execInputEdge c sense raw before s
  | .stampedEdgeMessage n c => Sys2Proof.Machine.execStampedEdgeMessage n c s
  | .unstampedEdgeNotice n c => Sys2Proof.Machine.execUnstampedEdgeNotice n c s
  | .armTimeReached n => Sys2Proof.Machine.execArmTimeReached n s
  | .gateTimeExpiry n => Sys2Proof.Machine.execGateTimeExpiry n s
  | .totalizeTimeExpiry n => Sys2Proof.Machine.execTotalizeTimeExpiry n s
  | .watchExpiry n => Sys2Proof.Machine.execWatchExpiry n s
  | .quotientTake => Sys2Proof.Machine.execQuotientTake s
  | .quotientComplete => Sys2Proof.Machine.execQuotientComplete s
  | .calibrationStart => Sys2Proof.Machine.execCalibrationStart s
  | .ringOscillatorHit raw => Sys2Proof.Machine.execRingOscillatorHit raw s
  | .longCalibrationComplete => Sys2Proof.Machine.execLongCalibrationComplete s
  | .shortCalibrationComplete => Sys2Proof.Machine.execShortCalibrationComplete s
  | .shortCalibrationTimeout => Sys2Proof.Machine.execShortCalibrationTimeout s

end Sys2Proof.Machine
end

