-- ==== Sys2Proof/WellFormed.lean ====
section
/-! DEFINITION. Which commands can be given. Operand types already bound channels and contexts of events; host commands take every
value of their fields, since the part answers an out-of-range value with a result code (R168). -/

namespace Sys2Proof

/-- The number of rising edges of SCK at which the longest command of the frame table executes: 47 bytes of DEFINE CONTEXT. -/
def longestFrameBits : Nat := 376

/-- A command that can be given: an unknown command's code is outside the frame table (R167), and a frame is discarded only before the
last bit of its last parameter byte (R166). -/
def Instr.wellFormed : Instr → Bool
  | .unknownCommand code => (paramCount code).isNone
  | .frameDiscard n => decide (n < longestFrameBits)
  | _ => true

end Sys2Proof
end

