-- ==== Sys2Proof/Machine/BytesOut.lean ====
section
/-! DEFINITION. SDO: the bytes out of a frame (R164, R174), read off what the port holds of it. -/

namespace Sys2Proof.Machine

/-- Whether the port drives SDO: in a frame that it takes. While CSN is high SDO is high-impedance (R164, R176); in a frame that is not taken
the model leaves it so (log 21). -/
def State.drivesSdo (s : State) : Bool := decide (s.port.frame = .opened) || decide (s.port.frame = .executed)

/-- Byte `j` after the result code: the response, then 0x00, or in a READ TABLE burst the copy's values for as long as the frame lasts; empty
for a byte of a record of a READ RESULT burst that is not snapshotted yet (R164, R174). -/
def Port.responseByte (p : Port) (j : Nat) : Option Byte :=
  match p.response[j]? with
  | some b => some b
  | none =>
    match p.burst with
    | .none => some 0
    | .results _ => none
    | .table copy start =>
      let k := j - p.response.length
      (tableUnit copy start (k / 2))[k % 2]?

/-- Byte `k` out of the frame in progress (R164): the status byte, 0x00 while the parameters come in, the result code after the execution,
then the response. Empty while SDO is high-impedance. -/
def State.byteOut (s : State) (k : Nat) : Option Byte :=
  match s.port.frame with
  | .none | .ignored => none
  | .opened => some (if k = 0 then s.port.statusOut else 0)
  | .executed =>
    if k = 0 then some s.port.statusOut
    else if k ≤ s.port.params then some 0
    else if k = s.port.params + 1 then s.port.resultOut.map ResultCode.code
    else s.port.responseByte (k - (s.port.params + 2))

end Sys2Proof.Machine
end

