-- ==== Sys2Proof/Safety.lean ====
section
/-! DEFINITION. What counts as a sound part: the laws the manual says the part keeps at every event, as predicates on one state. Each
names its rule; no field of the state is constrained beyond what the rule says. -/

namespace Sys2Proof.Safety

open Sys2Proof.Machine

/-- The quotient queue never holds a context twice, and a context is in it exactly when its closed-gate slot is QUEUED (R139). -/
def QueueMatchesSlots (s : State) : Prop :=
  s.quotient.queue.Nodup ∧ ∀ n, n ∈ s.quotient.queue ↔ (s.ctx n).slot.isSome = true

/-- An IDLE or FREE context has no gate in its slot or in the unit, and a SETTLING one has (R65, R66). -/
def PendingMatchesStates (s : State) : Prop :=
  ∀ n, (((s.ctx n).state = .idle ∨ (s.ctx n).state = .free) → s.gatePending n = false) ∧
    ((s.ctx n).state = .settling → s.gatePending n = true)

/-- A record's overrun indication is set only while its fresh indication is set (R149). -/
def OverrunOnlyWhileFresh (s : State) : Prop := ∀ n, (s.ctx n).record.overrun = true → (s.ctx n).record.fresh = true

/-- The threshold is at least 1, a mask enables only causes of its source, only enabled event causes are outstanding, and RESULT, the level
cause of a context's source, is no event cause (R155, R156, R158). -/
def AttentionLawful (s : State) : Prop :=
  s.attention.threshold ≠ 0 ∧
    (∀ id, (s.source id).mask &&& causesOf id = (s.source id).mask ∧ (s.source id).events &&& (s.source id).mask = (s.source id).events) ∧
    ∀ n, (s.source (contextSource n)).events.getLsbD 0 = false

/-- The calibration queue holds at most one entry per channel (R38). -/
def OneEntryPerChannel (s : State) : Prop := (s.engine.queue.map CalEntry.channel).Nodup

/-- The entries of a table never decrease as the raw code rises (R35). -/
def TableRises (t : FineTable) : Prop := ∀ i j : Fin 256, i ≤ j → t[i] ≤ t[j]

/-- Every calibration table rises (R35). -/
def TablesRise (s : State) : Prop := ∀ c : Fin 8, TableRises s.engine.tables[c]

/-- The entries of all contexts on a channel in the order of R68. -/
def entriesOfAll (s : State) (c : Fin 8) : List (Fin 16 × Role) :=
  (List.finRange 16).flatMap fun n => entriesOn (s.ctx n).config n c

/-- Each listener list holds exactly the entries of the contexts' configurations, in the order of R68. -/
def ListsMatchConfigurations (s : State) : Prop := ∀ c, s.listenersOf c = entriesOfAll s c

/-- No context is ARMED, STARTING, GATING or CLOSING while a channel it is bound to, in any role, is out of service (R19). -/
def ActiveInService (s : State) : Prop :=
  ∀ n, (s.ctx n).state.active = true → ∀ r ∈ (s.ctx n).config.roles, s.inService r.2.1 = true

/-- While the reference search runs, INIT is set and the engine has nothing queued or running; while INIT is set no context is active
(R57, R58). -/
def InitLawful (s : State) : Prop :=
  (s.clock.search.isSome = true → s.engine.init = true ∧ s.engine.queue = [] ∧ s.engine.running = none) ∧
    (s.engine.init = true → s.anyActive = false)

/-- The gate time of a FREQUENCY context lies in its range (R72), and the expiry tick of its open gate lies 250·G ticks after the tick of the
start stamp, for a G of that range, the one in force when the gate opened (R91). -/
def FrequencyGatesLawful (s : State) : Prop :=
  ∀ n, (s.ctx n).config.kind = .frequency →
    (1 ≤ (s.ctx n).config.gateTime.toNat ∧ (s.ctx n).config.gateTime.toNat ≤ 100000000000) ∧
    ((s.ctx n).state = .gating ∨ (s.ctx n).state = .closing →
      ∃ g : Nat, 1 ≤ g ∧ g ≤ 100000000000 ∧
        (s.ctx n).live.expiryTick = tickOfStamp (s.ctx n).live.startStamp + BitVec.ofNat 48 (250 * g))

/-- Whether nothing is due at the present tick and no delivery is overdue, so that the tick may end as it stands (log 7). -/
def QuietTick (s : State) : Prop := s.settleTick = s

/-! ## How the statements speak of a command and of an event -/

/-- A frame is open and RSTN is high: where the last bit of a command's last byte executes it (R165). -/
def InFrame (s : State) : Prop := s.rstnLow = false ∧ s.port.frame = .opened

/-- The part `t` once its port has answered an execution: the frame is spent, the result code and response are sent, and LAST_REFUSED is set
exactly by a code from 0x10 upward (R164, R168, R169). The fields that hold what is sent are the model's form (log 21). -/
def answered (params : Nat) (t : State) (code : ResultCode) (response : List Byte) (burst : Burst) : State :=
  { t with
    port := { t.port with
      frame := .executed
      lastRefused := decide (0x10 ≤ code.code.toNat)
      params := params
      resultOut := some code
      response := response
      burst := burst } }

/-- A refusal: the part unchanged, the code alone sent (R168). -/
def refusedWith (params : Nat) (s : State) (code : ResultCode) : State := answered params s code [] .none

/-- A command taken with OK. -/
def takenWith (params : Nat) (t : State) (response : List Byte) : State := answered params t .ok response .none

/-- Active: ARMED, STARTING, GATING or CLOSING (R65). -/
def Active (s : State) (n : Fin 16) : Prop :=
  (s.ctx n).state = .armed ∨ (s.ctx n).state = .starting ∨ (s.ctx n).state = .gating ∨ (s.ctx n).state = .closing

/-- A context on a channel's listener list, in any role, is active or SETTLING (R17 check 3, R41 line 1). -/
def HeldByContext (s : State) (c : Fin 8) : Prop :=
  ∃ e ∈ s.listenersOf c, Active s e.1 ∨ (s.ctx e.1).state = .settling

/-- A channel is in service: enabled, and neither waiting for nor running a long calibration (R19). -/
def Serving (s : State) (c : Fin 8) : Prop :=
  (s.channel c).enable = true ∧ s.engine.phase c ≠ .longWait ∧ s.engine.phase c ≠ .longRun

/-- Event causes are raised on one source: those its mask enables join its set, and nothing else of the attention controller changes
(R155). -/
def Raised (id : Fin 20) (causes : BitVec 4) (s t : State) : Prop :=
  t.source id = { s.source id with events := (s.source id).events ||| ((s.source id).mask &&& causes) } ∧
    t.attention.threshold = s.attention.threshold ∧ ∀ k, k ≠ id → t.source k = s.source k

/-- Nothing changes but context `n`, the causes of its source and the quotient unit. -/
def OnlyContext (n : Fin 16) (s t : State) : Prop :=
  { t with contexts := s.contexts, attention := s.attention, quotient := s.quotient } = s ∧
    t.attention.threshold = s.attention.threshold ∧ (∀ m, m ≠ n → t.ctx m = s.ctx m) ∧
    ∀ id, id ≠ contextSource n → t.source id = s.source id

/-- The roles a context holds on a channel's list are those of its configuration, as R68 has it. -/
def ListedOn (s : State) (n : Fin 16) (c : Fin 8) : Prop :=
  s.rolesOn n c = (entriesOn (s.ctx n).config n c).map fun e => e.2

/-- The oldest item on its way from channel `c` to context `n` is `i`, and it may arrive now (R29). -/
def Arriving (s : State) (n : Fin 16) (c : Fin 8) (i : BusItem) : Prop := s.nextItem n c = some i ∧ s.mayArrive n i = true

/-- The item is of an edge after the tick of the ARM: only such an item can take part in the run (R12, R80). -/
def AfterArm (s : State) (n : Fin 16) (i : BusItem) : Prop := (s.ctx n).live.armElapsed < i.edgeTick

/-- The item is not of a tick before the fulfilment tick: of the notices only such a one can take part in the run (R80). What one of that very
tick does is for the tests of the kind's chapter (log 27). -/
def NotBeforeFulfilment (s : State) (n : Fin 16) (i : BusItem) : Prop := (s.ctx n).live.fulfilElapsed ≤ i.edgeTick

/-- The item is of the deadline tick of the interval that context `n` has in progress, it would end that interval, and the stop limit does not
come before the deadline (R116, R125). -/
def WaitsForExpiry (s : State) (n : Fin 16) (i : BusItem) : Prop :=
  let c := s.ctx n
  let limit := c.live.startStamp + BitVec.ofNat 60 (4096 * c.config.stopDelay.toNat)
  i.edgeTick = s.clock.elapsed ∧ c.config.kind = .interval ∧ c.state = .gating ∧ c.live.deadline = some s.clock.timescale ∧
    laterTick s.clock.timescale (tickOfStamp limit) = false ∧ i.channel = c.config.channelB ∧ c.config.senseB.takes i.sense = true ∧
    ((∃ x, i.stamped = some x ∧ laterStamp (stampOf i.tick x.fine) c.live.startStamp = true ∧
        atLeastStamp (stampOf i.tick x.fine) limit = true) ∨
      (i.stamped = none ∧ laterStamp (stampOfTick i.tick) limit = true))

/-- The part after context `n` has been handed its oldest item from channel `c`. -/
def handed (s : State) (n : Fin 16) (c : Fin 8) : State := { s with bus := dropRecipient n c s.bus }

/-- W·250,000 ticks (R14). -/
def watchLength (c : Context) : Tick := .ofNat 48 (c.config.watch.toNat * 250000)

/-- 250·G ticks (R14). -/
def gateLength (c : Context) : Tick := .ofNat 48 (c.config.gateTime.toNat * 250)

/-- The state in which a SINGLE run ends: SETTLING while a gate is pending, IDLE otherwise (R66). -/
def endState (s : State) (n : Fin 16) : CtxState := if s.gatePending n then .settling else .idle

/-- The gate pattern passes the gate that closes now (R146). -/
def Passes (c : Context) : Prop := (c.config.passCount = 0 ∧ c.config.skipCount = 0) ∨ c.position.toNat < c.config.passCount.toNat

/-- What a posting makes of a context's record, its LATE pending and its source (R148, R149). -/
def Posted (n : Fin 16) (figures : Figures) (seq : BitVec 16) (flags : Flags) (primary : Nat) (s t : State) : Prop :=
  let c := s.ctx n
  let low := c.config.limitEnable && decide (primary < c.config.lowLimit.toNat)
  let high := c.config.limitEnable && decide (c.config.highLimit.toNat < primary)
  (t.ctx n).record =
      { fresh := true
        overrun := c.record.overrun || c.record.fresh
        seq := seq
        flags := { flags with limitLow := low, limitHigh := high, late := c.latePending }
        figures := figures } ∧
    (t.ctx n).latePending = false ∧
    Raised (contextSource n) ((if c.record.fresh then 0b0100#4 else 0) ||| (if low || high then 0b0010#4 else 0)) s t

/-- A gate handed to the closed-gate slot and the quotient queue: an EMPTY slot is filled and the context joins the tail; a QUEUED one is
replaced with GAP and raises OVERRUN, the queue unchanged (R101, R102). -/
def HandedOn (n : Fin 16) (g : RawGate) (s t : State) : Prop :=
  ((s.ctx n).slot = none →
      (t.ctx n).slot = some { g with flags := { g.flags with gap := false } } ∧ t.quotient.queue = s.quotient.queue ++ [n] ∧
      t.attention = s.attention) ∧
    ((s.ctx n).slot ≠ none →
      (t.ctx n).slot = some { g with flags := { g.flags with gap := true } } ∧ t.quotient.queue = s.quotient.queue ∧
      Raised (contextSource n) 0b0100#4 s t)

/-- The arm condition of context `n` is met at a boundary with a fulfilment stamp: the figures and the state of R80, every other live figure
as it stood. `ref` is REF of a TOTALIZE gate that opens there. -/
def Fulfilled (n : Fin 16) (b : Boundary) (stamp : Stamp) (ref : Bool) (s t : State) : Prop :=
  let c := s.ctx n
  let d := t.ctx n
  let waits := c.config.kind = .frequency ∨ c.config.kind = .interval ∨ (c.config.kind = .totalize ∧ c.config.gateMode = .window)
  let opens := c.config.kind = .totalize ∧ c.config.gateMode ≠ .window
  let marked : Live := { c.live with
    fulfilTick := b.tick, fulfilStamp := stamp, fulfilElapsed := b.elapsed, testFulfilment := true }
  OnlyContext n s t ∧ t.attention = s.attention ∧ t.quotient = s.quotient ∧
    d.config = c.config ∧ d.slot = c.slot ∧ d.record = c.record ∧ d.total = c.total ∧ d.seq = c.seq ∧ d.position = c.position ∧
    d.latePending = c.latePending ∧ (waits → d.state = .starting) ∧
    (waits → c.config.kind ≠ .interval → d.live = { marked with deadline := some (b.tick + watchLength c) }) ∧
    (c.config.kind = .interval →
      d.live = { marked with
        floor := stamp, entryTick := b.tick, heldStop := none, heldNotice := none, deadline := some (b.tick + watchLength c) }) ∧
    (opens →
      d.state = .gating ∧
      d.live = { marked with
        openTick := b.tick
        openCount := (s.channel c.config.channelA).sample b.elapsed c.config.senseA
        flags := { Flags.clear with ref := ref }
        expiryTick := if c.config.gateMode = .time then b.tick + gateLength c else c.live.expiryTick
        deadline := if c.config.gateMode = .time then none else some (b.tick + watchLength c)
        testFulfilment := false })

/-- A TOTALIZE gate of context `n` closes at a boundary with the flags it gathered: count, sequence, total, pattern, posting and what the run
mode gives (R128, R136, R137, R146). -/
def TotalGateClosed (n : Fin 16) (b : Boundary) (flags : Flags) (s t : State) : Prop :=
  let c := s.ctx n
  let d := t.ctx n
  let count := (s.channel c.config.channelA).sample b.elapsed c.config.senseA
  let e := count - c.live.openCount
  let clamps := c.config.totalMode = .saturate ∧ 2 ^ 48 ≤ c.total.toNat + e.toNat
  OnlyContext n s t ∧ t.quotient = s.quotient ∧ d.config = c.config ∧ d.slot = c.slot ∧ d.seq = c.seq + 1 ∧
    (clamps → d.total = BitVec.allOnes 48) ∧ (¬clamps → d.total = c.total + e) ∧
    (Passes c → Posted n (.totalize e d.total c.live.openTick b.tick) (c.seq + 1) { flags with sat := decide clamps } e.toNat s t) ∧
    (¬Passes c → d.record = c.record ∧ d.latePending = c.latePending ∧ t.attention = s.attention) ∧
    (c.config.runMode = .single → d.state = endState s n ∧ d.live.deadline = none ∧ d.live.flags = Flags.clear) ∧
    (c.config.runMode = .continuous → c.config.gateMode = .window →
      d.state = .starting ∧ d.live.deadline = some (b.tick + watchLength c) ∧ d.live.flags = Flags.clear) ∧
    (c.config.runMode = .continuous → c.config.gateMode ≠ .window →
      d.state = .gating ∧ d.live.openTick = b.tick ∧ d.live.openCount = count ∧
      d.live.flags = { Flags.clear with ref := decide (s.clock.monitor ≠ .locked) }) ∧
    (c.config.runMode = .continuous → c.config.gateMode = .time →
      d.live.expiryTick = b.tick + gateLength c ∧ d.live.deadline = none) ∧
    (c.config.runMode = .continuous → c.config.gateMode = .manual → d.live.deadline = some (b.tick + watchLength c))

/-- Where the pattern position stands after a gate close: 0 with no pattern, otherwise one further, and 0 after P + S − 1 (R146). -/
def NextPosition (c d : Context) : Prop :=
  ((c.config.passCount = 0 ∧ c.config.skipCount = 0) → d.position = 0) ∧
    (¬(c.config.passCount = 0 ∧ c.config.skipCount = 0) →
      (c.config.passCount.toNat + c.config.skipCount.toNat ≤ c.position.toNat + 1 → d.position = 0) ∧
      (c.position.toNat + 1 < c.config.passCount.toNat + c.config.skipCount.toNat → d.position = c.position + 1))

/-- The answer and effect of a LONG request on one channel, the lines of R41 in order. -/
def LongAnswer (s : State) (c : Fin 8) (code : ResultCode) (t : State) : Prop :=
  (HeldByContext s c → code = .inUse ∧ t = s) ∧
    (¬HeldByContext s c → (s.engine.phase c = .longWait ∨ s.engine.phase c = .longRun) → code = .already ∧ t = s) ∧
    (¬HeldByContext s c → s.engine.phase c ≠ .longWait → s.engine.phase c ≠ .longRun →
      code = .ok ∧
      (⟨c, .short⟩ ∈ s.engine.queue →
        t = { s with engine := { s.engine with queue := s.engine.queue.map fun x => if x = ⟨c, .short⟩ then ⟨c, .long⟩ else x } }) ∧
      (⟨c, .short⟩ ∉ s.engine.queue → t = { s with engine := { s.engine with queue := s.engine.queue ++ [⟨c, .long⟩] } }))

/-- The answer and effect of a SHORT request on one channel, the lines of R42 in order. -/
def ShortAnswer (s : State) (c : Fin 8) (code : ResultCode) (t : State) : Prop :=
  ((s.channel c).enable = false → code = .notReady ∧ t = s) ∧
    ((s.channel c).enable = true → s.engine.phase c ≠ .none → code = .already ∧ t = s) ∧
    ((s.channel c).enable = true → s.engine.phase c = .none →
      code = .ok ∧ t = { s with engine := { s.engine with queue := s.engine.queue ++ [⟨c, .short⟩] } })

/-- The answer and effect of ABORT CALIBRATION on one channel (R51, and R31 for the histories). -/
def AbortAnswer (s : State) (c : Fin 8) (code : ResultCode) (t : State) : Prop :=
  let runsLong := ∃ r, s.engine.running = some r ∧ r.channel = c ∧ r.kind = .long
  let runs := ∃ r, s.engine.running = some r ∧ r.channel = c
  let waits := ∃ x ∈ s.engine.queue, x.channel = c
  (¬runs ∧ ¬waits → code = .already ∧ t = s) ∧
    (runs ∨ waits →
      code = .ok ∧ { t with engine := s.engine, channels := s.channels } = s ∧
      t.engine.queue = s.engine.queue.filter (fun x => decide (x.channel ≠ c)) ∧
      (runs → t.engine.running = none) ∧ (¬runs → t.engine.running = s.engine.running) ∧
      t.engine.tables = s.engine.tables ∧ t.engine.generations = s.engine.generations ∧
      t.engine.driftLimit = s.engine.driftLimit ∧ t.engine.init = s.engine.init ∧
      (∀ d, d ≠ c → t.engine.outcomes[d] = s.engine.outcomes[d]) ∧
      (runsLong ∨ ⟨c, .long⟩ ∈ s.engine.queue → t.engine.outcomes[c] = ⟨some .long, .aborted, 0⟩) ∧
      (¬(runsLong ∨ ⟨c, .long⟩ ∈ s.engine.queue) → t.engine.outcomes[c] = ⟨some .short, .aborted, 0⟩) ∧
      (∀ d, d ≠ c → t.channel d = s.channel d) ∧
      (runsLong → t.channel c = { s.channel c with lastAccepted := none, lastStamped := none }) ∧
      (¬runsLong → t.channel c = s.channel c) ∧ t.engine.phase c = .none)

/-- The masked channels are treated one at a time in channel order, each by `answer`; an unmasked channel answers OK untouched (R40,
R51). -/
def ChannelByChannel (answer : State → Fin 8 → ResultCode → State → Prop) (mask : Byte) (s : State) (answers : List ResultCode)
    (t : State) : Prop :=
  ∃ (at' : Fin 9 → State) (code : Fin 8 → ResultCode),
    at' 0 = s ∧ at' 8 = t ∧ answers = List.ofFn code ∧
      ∀ c : Fin 8,
        (mask.getLsbD c.val = true → answer (at' c.castSucc) c (code c) (at' c.succ)) ∧
        (mask.getLsbD c.val = false → code c = .ok ∧ at' c.succ = at' c.castSucc)

end Sys2Proof.Safety
end

