-- ==== Sys2Proof/Certificates/Slice0/Obligations.lean ====
section
/-! DEFINITION. The statements for the provers. Those about host commands speak of a part in an open frame with RSTN high (`InFrame`);
`CommandBringsItsOwnFrame` and `PowerOnResetValues` say what happens in the other cases. -/

open Sys2Proof Sys2Proof.Machine Sys2Proof.Safety

/-! ## The queue of commands -/

/-- The step takes the command at the front of the queue and executes it on the part with the queue's rest (log 2). -/
def Obligations.StepRunsFrontCommand : Prop :=
  ∀ (c : Instr) (rest : List Instr) (s : State), step { s with pending := c :: rest } = exec c { s with pending := rest }

/-- Every command and event answers a next state and leaves the queue of waiting commands (R168); one that is neither a host command nor
a frame event nor a reset leaves the port too, so that what an execution formed stands (R165). -/
def Obligations.EveryCommandAnswersNext : Prop :=
  ∀ (c : Instr) (s : State), ∃ t, exec c s = .next t ∧ t.pending = s.pending ∧
    (encodeFrame c = none → c ≠ .frameStart → (∀ k, c ≠ .frameDiscard k) → c ≠ .frameEnd → c ≠ .resultRecordSnapshot →
      c ≠ .powerOnReset → t.port = s.port)

/-! ## Frames and device commands -/

/-- A command given outside an open frame brings its own: it does what it does after FRAME_START (log 4, the model's choice). -/
def Obligations.CommandBringsItsOwnFrame : Prop :=
  ∀ (c : Instr) (s : State), (encodeFrame c).isSome = true → c.wellFormed = true → s.rstnLow = false →
    (s.port.frame = .none ∨ s.port.frame = .executed) → exec c s = exec c s.startFrame

/-- FRAME_START begins a frame and forms the status byte from the part at that point, bit by bit (R170). That one given after the execution,
with CSN still low, ends that frame first is log 4's choice; the fields in which the port holds what it sends are log 21's form. -/
def Obligations.FrameStartFormsStatusByte : Prop :=
  ∀ s : State, s.rstnLow = false → (s.port.frame = .none ∨ s.port.frame = .executed) →
    ∃ b : Byte,
      exec .frameStart s =
        .next { s with
          port := { s.port with
            frame := .opened, statusOut := b, params := 0, resultOut := none, response := [], burst := .none } } ∧
      (b.getLsbD 7 = true ↔ s.engine.init = true) ∧
      (b.getLsbD 6 = true ↔ ∃ id, s.outstanding id ≠ 0 ∧ s.attention.threshold ≤ (s.source id).priority) ∧
      (b.getLsbD 5 = true ↔ s.engine.queue ≠ [] ∨ s.engine.running ≠ none) ∧
      (b.getLsbD 4 = true ↔ s.clock.monitor = .locked) ∧
      (b.getLsbD 3 = true ↔ s.port.frameErr = true) ∧
      (b.getLsbD 2 = true ↔ s.port.lastRefused = true) ∧
      (b.getLsbD 1 = true ↔ ∃ n, (s.ctx n).record.fresh = true) ∧
      (b.getLsbD 0 = true ↔ s.quotient.queue ≠ [] ∨ s.quotient.work ≠ none)

/-- CSN rises before the execution: with an edge of SCK the frame is discarded and FRAME_ERR set, with none it sets nothing; CSN rises
after the execution: the frame is complete and a burst ends (R166, R171, R174). Nothing else of the part changes. The operand counts the
edges of SCK (log 23). The bytes out of a frame are the status byte, 0x00 while the parameters come in, the result code, the response and
0x00 after it, or the values of READ TABLE's copy; SDO is not driven while CSN is high (R164, R174; how the port holds them is log 21's). -/
def Obligations.FrameBytesAndEndings : Prop :=
  (∀ (s : State) (k : Nat), InFrame s → 0 < k →
    exec (.frameDiscard k) s = .next { s with port := { s.port with frame := .none, frameErr := true, burst := .none } }) ∧
  (∀ s : State, InFrame s → exec (.frameDiscard 0) s = .next { s with port := { s.port with frame := .none, burst := .none } }) ∧
  (∀ s : State, s.rstnLow = false → s.port.frame = .executed →
    exec .frameEnd s = .next { s with port := { s.port with frame := .none, burst := .none } }) ∧
  (∀ s : State, s.port.frame = .none → s.drivesSdo = false ∧ ∀ k, s.byteOut k = none) ∧
  (∀ s : State, s.port.frame = .opened →
    s.drivesSdo = true ∧ s.byteOut 0 = some s.port.statusOut ∧ ∀ k, s.byteOut (k + 1) = some 0) ∧
  (∀ (c : Instr) (bytes : List Byte) (s : State), InFrame s → c.wellFormed = true → encodeFrame c = some bytes →
    ∃ t, exec c s = .next t ∧ t.drivesSdo = true ∧ t.byteOut 0 = some s.port.statusOut ∧
      (∀ k, 1 ≤ k → k < bytes.length → t.byteOut k = some 0) ∧
      (∃ code : ResultCode, t.port.resultOut = some code ∧ t.byteOut bytes.length = some code.code) ∧
      (∀ j, j < t.port.response.length → t.byteOut (bytes.length + 1 + j) = t.port.response[j]?) ∧
      (t.port.burst = .none → ∀ j, t.port.response.length ≤ j → t.byteOut (bytes.length + 1 + j) = some 0) ∧
      ∀ copy start, t.port.burst = .table copy start → ∀ k e, e < 2 →
        t.byteOut (bytes.length + 1 + t.port.response.length + 2 * k + e) = (tableUnit copy start k)[e]?)

/-- READ DEVICE STATUS returns the status copy formed at its execution, the reference state, the SYNC mode and the outstanding-source
mask, and then clears FRAME_ERR (R172). -/
def Obligations.DeviceStatusReturned : Prop :=
  ∀ s : State, InFrame s →
    ∃ (mask : BitVec 24) (reference sync : Byte),
      exec .readDeviceStatus s =
        .next (takenWith 0 { s with port := { s.port with frameErr := false } }
          ([s.statusByte, reference, sync] ++ bytesOf 3 mask.toNat)) ∧
      (∀ id : Fin 20, mask.getLsbD id.val = true ↔ s.outstanding id ≠ 0) ∧
      (∀ k, 20 ≤ k → mask.getLsbD k = false) ∧
      (s.clock.monitor = .searching → reference = 0) ∧ (s.clock.monitor = .locked → reference = 1) ∧
      (s.clock.monitor = .holdover → reference = 2) ∧
      (s.clock.syncMode = .off → sync = 0) ∧ (s.clock.syncMode = .loadOnRise → sync = 1)

/-- READ IDENTITY returns 0x0C1A, 0x0810 and 1; NO OPERATION returns nothing; neither changes anything but LAST_REFUSED (R173). -/
def Obligations.IdentityAndNoOperation : Prop :=
  ∀ s : State, InFrame s →
    exec .readIdentity s = .next (takenWith 0 s [0x0C, 0x1A, 0x08, 0x10, 0x01]) ∧ exec .noOperation s = .next (takenWith 0 s [])

/-- A code outside the frame table executes at its own byte, answers UNKNOWN and changes nothing in the part; bytes after it are ignored
(R167). -/
def Obligations.UnknownCodeAnswersUnknown : Prop :=
  ∀ (s : State) (code : Byte) (rest : List Byte), InFrame s →
    code ∉ ([0x00, 0x01, 0x02, 0x03, 0x08, 0x09, 0x0A, 0x10, 0x11, 0x12, 0x13, 0x14, 0x15, 0x16, 0x20, 0x21, 0x22, 0x23, 0x24, 0x25,
      0x28, 0x29, 0x2A, 0x30, 0x31, 0x32] : List Byte) →
    decodeFrame (code :: rest) = some (.unknownCommand code) ∧ exec (.unknownCommand code) s = .next (refusedWith 0 s .unknown)

/-- An index outside its set answers RANGE before every other check, INIT and the object's state included (R17, R33, R55, R56, R67, R76,
R151, R153, R158). -/
def Obligations.IndexOutOfSetAnswersRange : Prop :=
  ∀ (s : State) (k : Byte), InFrame s →
    (8 ≤ k.toNat →
      (∀ e p h, exec (.configureChannel k e p h) s = .next (refusedWith 5 s .range)) ∧
      exec (.readChannel k) s = .next (refusedWith 1 s .range) ∧
      exec (.readCalibration k) s = .next (refusedWith 1 s .range) ∧
      ∀ r, exec (.readTable k r) s = .next (refusedWith 2 s .range)) ∧
    (16 ≤ k.toNat →
      (∀ b, exec (.defineContext k b) s = .next (refusedWith 46 s .range)) ∧
      (∀ sel v, exec (.modifyContext k sel v) s = .next (refusedWith 34 s .range)) ∧
      (∀ t, exec (.arm k t) s = .next (refusedWith 7 s .range)) ∧
      exec (.abort k) s = .next (refusedWith 1 s .range) ∧
      exec (.closeGate k) s = .next (refusedWith 1 s .range) ∧
      exec (.retire k) s = .next (refusedWith 1 s .range) ∧
      exec (.readResult k) s = .next (refusedWith 1 s .range) ∧
      exec (.readLive k) s = .next (refusedWith 1 s .range) ∧
      exec (.readContext k) s = .next (refusedWith 1 s .range)) ∧
    (20 ≤ k.toNat → ∀ p m, exec (.setPriority k p m) s = .next (refusedWith 3 s .range))

/-- While INIT is set, SOFT RESET, ARM, CALIBRATE and ABORT CALIBRATION answer NOT_READY and leave the part unchanged; the calibration
commands repeat the code eight times (R58, R165). Once INIT is clear it stays clear until the next power-on reset (R58). -/
def Obligations.InitRefusesUntilItEnds : Prop :=
  (∀ s : State, InFrame s → s.engine.init = true →
    exec .softReset s = .next (refusedWith 0 s .notReady) ∧
    (∀ (n : Fin 16) (k : Byte) (t : Tick), k.toNat = n.val → exec (.arm k t) s = .next (refusedWith 7 s .notReady)) ∧
    (∀ m k, exec (.calibrate m k) s = .next (answered 2 s .notReady (List.replicate 8 0x11) .none)) ∧
    ∀ m, exec (.abortCalibration m) s = .next (answered 1 s .notReady (List.replicate 8 0x11) .none)) ∧
  (∀ (c : Instr) (s t : State), c ≠ .powerOnReset → exec c s = .next t → s.engine.init = false → t.engine.init = false)

/-- An executed SOFT RESET, block by block (R175). That the edge bus and the reference-loss notices stand is the model's reading (log 26). -/
def Obligations.SoftResetSetsEveryBlock : Prop :=
  ∀ s : State, InFrame s → s.engine.init = false →
    ∃ t, exec .softReset s = .next t ∧
      t.clock = { s.clock with syncMode := .off, preset := 0 } ∧
      (∀ c, t.channel c = ⟨false, .rise, 0, 0, 0, none, none, []⟩ ∧ t.engine.phase c = .none ∧ t.listenersOf c = []) ∧
      t.engine.queue = [] ∧ t.engine.running = none ∧ t.engine.tables = s.engine.tables ∧
      t.engine.generations = s.engine.generations ∧ t.engine.driftLimit = s.engine.driftLimit ∧ t.engine.init = false ∧
      (s.engine.running = none → t.engine.outcomes = s.engine.outcomes) ∧
      (∀ r, s.engine.running = some r →
        t.engine.outcomes[r.channel] = ⟨some r.kind, .aborted, 0⟩ ∧
        ∀ d, d ≠ r.channel → t.engine.outcomes[d] = s.engine.outcomes[d]) ∧
      (∀ n, t.ctx n = Context.free) ∧ t.quotient = ⟨[], none⟩ ∧
      (∀ id, t.source id = ⟨0, causesOf id, 0⟩) ∧ t.attention.threshold = 1 ∧ t.attn = false ∧
      t.port = { s.port with
        frame := .executed, frameErr := false, lastRefused := false, params := 0, resultOut := some .ok, response := [], burst := .none } ∧
      (∀ k, t.statusByte.getLsbD k = true ↔ k = 4 ∧ s.clock.monitor = .locked) ∧
      t.bus = s.bus ∧ t.lossNotices = s.lossNotices ∧ t.rstnLow = false

/-- Power-on reset sets every block to the values its chapter gives and holds it there while RSTN is low; RESET_RELEASE lets it go
(R2, R5, R10, R34, R52, R87, R145, R163, R176). While RSTN is low ticks, edges, SYNC, lock events and commands do nothing (log 18). The two
resets are steps of their own (log 1); that items of the edge bus and reference-loss notices are dropped is log 28's choice. A frame that
RSTN cuts, or whose CSN falls while RSTN is low, is not taken: its commands do nothing and its end sets nothing. -/
def Obligations.PowerOnResetValues : Prop :=
  (∀ s : State, ∃ t, exec .powerOnReset s = .next t ∧ t.rstnLow = true ∧
    t.clock.timescale = 0 ∧ t.clock.monitor = .searching ∧ t.clock.search = some 0 ∧ t.clock.syncMode = .off ∧ t.clock.preset = 0 ∧
    (∀ c, t.channel c = ⟨false, .rise, 0, 0, 0, none, none, []⟩ ∧ t.listenersOf c = []) ∧ t.bus = [] ∧
    (∀ (c : Fin 8) (r : Fin 256), t.engine.tables[c][r].toNat = min 4095 (18 * r.val + 9)) ∧
    (∀ c : Fin 8, t.engine.generations[c] = 0 ∧ t.engine.outcomes[c] = ⟨none, .none, 0⟩) ∧
    (∀ r : Fin 256, t.engine.histogram[r] = 0) ∧
    t.engine.queue = [] ∧ t.engine.running = none ∧ t.engine.driftLimit = 24 ∧ t.engine.init = true ∧
    (∀ n, t.ctx n = Context.free) ∧ t.quotient = ⟨[], none⟩ ∧
    (∀ id, t.source id = ⟨0, causesOf id, 0⟩) ∧ t.attention.threshold = 1 ∧ t.attn = false ∧
    (s.port.frame = .none → t.port.frame = .none) ∧ (s.port.frame ≠ .none → t.port.frame = .ignored) ∧ t.drivesSdo = false ∧
    t.port.frameErr = false ∧ t.port.lastRefused = false ∧ (∀ n : Fin 16, t.lossNotices[n] = 0) ∧
    exec .resetRelease t = .next { t with rstnLow := false }) ∧
  (∀ s : State, exec .resetRelease s = .next { s with rstnLow := false }) ∧
  (∀ (s : State) (c : Instr), s.rstnLow = true →
    ((encodeFrame c).isSome = true ∨ c = .resultRecordSnapshot ∨
      c = .coarseTick ∨ c = .timescaleWrap ∨ c = .syncEdge ∨ c = .lockAchieved ∨ c = .lockLost ∨ (∃ p e r b, c = .inputEdge p e r b)) →
    exec c s = .next s) ∧
  (∀ s : State, s.rstnLow = true → s.port.frame = .none →
    exec .frameStart s = .next { s with port := { s.port with frame := .ignored } }) ∧
  (∀ s : State, s.port.frame = .ignored →
    exec .frameStart s = .next s ∧ (∀ c, (encodeFrame c).isSome = true → exec c s = .next s) ∧
    (∀ k, exec (.frameDiscard k) s = .next { s with port := { s.port with frame := .none } }) ∧
    exec .frameEnd s = .next { s with port := { s.port with frame := .none } })

/-! ## The timescale block -/

/-- The timescale advances by one at each tick and steps from 2^48 − 1 to 0, which raises WRAP; TIMESCALE_WRAP is that tick; a load, by
LOAD TIMESCALE or by SYNC, never raises it (R1). A tick leaves the channels, the port, the tables and the listener lists. It counts a running
reference search, which ends at 500,000,000 ticks and queues the auto-initialization (R10, R57), and a running short calibration, which times
out at 2,500,000,000 without its hits (R46), through a load as well (R4); those very ticks are log 14's reading. That TIMESCALE_WRAP is the
tick itself (log 10), that SYNC_EDGE is (log 11), what a tick first takes (settleTick, log 7) and the elapsed count (log 6) are the
model's choices. -/
def Obligations.TickAdvancesAndWraps : Prop :=
  ∀ s : State, s.rstnLow = false →
    let counted := fun t : State =>
      t.clock.elapsed = s.clock.elapsed + 1 ∧
      (s.clock.search = none → t.clock.search = none ∧ t.engine.queue = s.engine.queue) ∧
      (∀ k, s.clock.search = some k → k ≠ 500000000 → t.clock.search = some (k + 1) ∧ t.engine.queue = s.engine.queue) ∧
      (s.clock.search = some 500000000 → t.clock.search = none ∧ t.engine.queue = s.engine.queue ++
        [⟨0, .long⟩, ⟨1, .long⟩, ⟨2, .long⟩, ⟨3, .long⟩, ⟨4, .long⟩, ⟨5, .long⟩, ⟨6, .long⟩, ⟨7, .long⟩]) ∧
      (s.engine.running = none → t.engine.running = none) ∧
      (∀ r, s.engine.running = some r → r.kind = .long → t.engine.running = some r) ∧
      (∀ r, s.engine.running = some r → r.kind = .short → (r.ticks ≠ 2500000000 ∨ 8192 ≤ r.hits) →
        t.engine.running = some { r with ticks := r.ticks + 1 }) ∧
      (∀ r, s.engine.running = some r → r.kind = .short → r.ticks = 2500000000 → r.hits < 8192 →
        t.engine.running = none ∧ t.engine.outcomes[r.channel] = ⟨some .short, .timeout, 0⟩)
    (∀ c, c = .coarseTick ∨ (c = .timescaleWrap ∧ s.clock.timescale.toNat = 2 ^ 48 - 1) →
      ∃ t, exec c s = .next t ∧ t.clock.timescale.toNat = (s.clock.timescale.toNat + 1) % 2 ^ 48 ∧ counted t ∧
        (t.source sourceTimescale).events =
          (s.source sourceTimescale).events |||
            (if s.clock.timescale.toNat = 2 ^ 48 - 1 then (s.source sourceTimescale).mask &&& 0b0001#4 else 0) ∧
        t.clock.monitor = s.clock.monitor ∧ t.clock.syncMode = s.clock.syncMode ∧ t.clock.preset = s.clock.preset ∧
        t.channels = s.channels ∧ t.engine.tables = s.engine.tables ∧ t.engine.generations = s.engine.generations ∧
        t.listeners = s.listeners ∧ t.port = s.port) ∧
    (∀ v, ∃ t, exec (.loadTimescale v) s = .next t ∧ t.source sourceTimescale = s.source sourceTimescale) ∧
    (s.clock.syncMode = .loadOnRise → s.settleTick.anyActive = false →
      ∃ t, exec .syncEdge s = .next t ∧ t.clock.timescale = s.clock.preset ∧ counted t ∧
        t.source sourceTimescale = s.source sourceTimescale)

/-- READ TIMESCALE returns the timescale in six bytes and changes nothing (R3). LOAD TIMESCALE answers IN_USE while a context is active
and otherwise sets the timescale, the next tick taking it one further; an edge whose edge tick is still to come is stamped against the new
count, and counters, tables, figures and the counts of elapsed ticks stand (R4; the elapsed count is log 6's). -/
def Obligations.TimescaleReadAndLoaded : Prop :=
  ∀ s : State, InFrame s →
    (∃ bytes, exec .readTimescale s = .next (takenWith 0 s bytes) ∧ bytes.length = 6 ∧ valueOf bytes = s.clock.timescale.toNat) ∧
    ∀ v : Tick,
      ((∃ n, Active s n) → exec (.loadTimescale v) s = .next (refusedWith 6 s .inUse)) ∧
      ((∀ n, ¬Active s n) →
        ∃ t, exec (.loadTimescale v) s = .next (takenWith 6 t []) ∧
          t = { s with
            clock := { s.clock with timescale := v }
            bus := s.bus.map fun i => if s.clock.elapsed < i.edgeTick then { i with tick := v + 1 } else i } ∧
          ∃ u, exec .coarseTick (takenWith 6 t []) = .next u ∧ u.clock.timescale = v + 1)

/-- SET SYNC replaces mode and preset or answers BAD_FIELD (R5). At a rising edge on SYNC in LOAD_ON_RISE, at a tick at which nothing else
is due, the timescale takes the preset in place of advancing and LOADED is raised if no context is active; otherwise it advances and
REFUSED is raised; the mode becomes OFF (R6). In OFF the edge is ignored. What a tick takes first is log 7's choice, and that the
event is the tick itself log 11's. -/
def Obligations.SyncIsOneShot : Prop :=
  (∀ (s : State) (mode : Byte) (preset : Tick), InFrame s →
    (mode = 0 → exec (.setSync mode preset) s =
      .next (takenWith 7 { s with clock := { s.clock with syncMode := .off, preset := preset } } [])) ∧
    (mode = 1 → exec (.setSync mode preset) s =
      .next (takenWith 7 { s with clock := { s.clock with syncMode := .loadOnRise, preset := preset } } [])) ∧
    (2 ≤ mode.toNat → exec (.setSync mode preset) s = .next (refusedWith 7 s .badField))) ∧
  (∀ s : State, s.clock.syncMode = .off → exec .syncEdge s = .next s) ∧
  (∀ s : State, s.rstnLow = false → QuietTick s → s.clock.syncMode = .loadOnRise →
    ((∀ n, ¬Active s n) →
      ∃ t, exec .syncEdge s = .next t ∧ t.clock.timescale = s.clock.preset ∧ t.clock.syncMode = .off ∧
        t.clock.elapsed = s.clock.elapsed + 1 ∧ Raised sourceSync 0b0001#4 s t ∧
        t.contexts = s.contexts ∧ t.channels = s.channels ∧ t.engine.tables = s.engine.tables ∧ t.quotient = s.quotient ∧
        t.listeners = s.listeners ∧ t.port = s.port) ∧
    ((∃ n, Active s n) →
      ∃ t, exec .syncEdge s = .next t ∧ t.clock.timescale = s.clock.timescale + 1 ∧ t.clock.syncMode = .off ∧
        t.clock.elapsed = s.clock.elapsed + 1 ∧
        (t.source sourceSync).events = (s.source sourceSync).events ||| ((s.source sourceSync).mask &&& 0b0010#4) ∧
        (∀ id, id ≠ sourceSync → id ≠ sourceTimescale → t.source id = s.source id) ∧
        t.contexts = s.contexts ∧ t.channels = s.channels ∧ t.engine.tables = s.engine.tables ∧ t.quotient = s.quotient ∧
        t.listeners = s.listeners ∧ t.port = s.port))

/-- The reference monitor's table and that SEARCHING is entered by power-on reset alone (R7), its REF_LOCKED bit (R170) and its state in READ
DEVICE STATUS (R172). LOCK_LOST sends a reference-loss notice to every context (R9); that the model counts the notices on their way, free of any
delay, is log 30's choice. -/
def Obligations.ReferenceMonitorMoves : Prop :=
  (∀ s : State, s.rstnLow = false →
    (s.clock.monitor = .searching →
      (∃ t, exec .lockAchieved s = .next t ∧ t.clock.monitor = .locked ∧ t.attention = s.attention) ∧ exec .lockLost s = .next s) ∧
    (s.clock.monitor = .locked →
      exec .lockAchieved s = .next s ∧
      ∃ t, exec .lockLost s = .next t ∧ t.clock = { s.clock with monitor := .holdover } ∧ Raised sourceReference 0b0001#4 s t ∧
        (∀ n : Fin 16, t.lossNotices[n] = s.lossNotices[n] + 1) ∧
        { t with clock := s.clock, attention := s.attention, lossNotices := s.lossNotices } = s) ∧
    (s.clock.monitor = .holdover →
      exec .lockLost s = .next s ∧
      ∃ t, exec .lockAchieved s = .next t ∧ t.clock = { s.clock with monitor := .locked } ∧ Raised sourceReference 0b0010#4 s t ∧
        { t with clock := s.clock, attention := s.attention } = s)) ∧
  (∀ s : State, s.statusByte.getLsbD 4 = true ↔ s.clock.monitor = .locked) ∧
  (∀ s : State, InFrame s → ∃ t : State, exec .readDeviceStatus s = .next t ∧
    t.port.response[1]? = some (match s.clock.monitor with | .searching => (0 : Byte) | .locked => 1 | .holdover => 2)) ∧
  (∀ (c : Instr) (s t : State), c ≠ .powerOnReset → exec c s = .next t → t.clock.monitor = .searching → s.clock.monitor = .searching)

/-- The reference search ends at the first lock or after 500,000,000 elapsed ticks, and then queues one LONG entry per channel, once (R10,
R57). A reference-loss notice marks REF where the kind and state of the context say so (R9, R97, R120, R135).
That the search ends at the 500,000,000th tick is log 14's reading. -/
def Obligations.SearchEndsAndLossNoticesMark : Prop :=
  (∀ s : State, s.clock.search = some 500000000 →
    exec .referenceSearchTimeout s =
      .next { s with
        clock := { s.clock with search := none }
        engine := { s.engine with
          queue := s.engine.queue ++
            [⟨0, .long⟩, ⟨1, .long⟩, ⟨2, .long⟩, ⟨3, .long⟩, ⟨4, .long⟩, ⟨5, .long⟩, ⟨6, .long⟩, ⟨7, .long⟩] } }) ∧
  (∀ (s : State) (k : Nat), s.rstnLow = false → s.clock.monitor = .searching → s.clock.search = some k →
    exec .lockAchieved s =
      .next { s with
        clock := { s.clock with monitor := .locked, search := none }
        engine := { s.engine with
          queue := s.engine.queue ++
            [⟨0, .long⟩, ⟨1, .long⟩, ⟨2, .long⟩, ⟨3, .long⟩, ⟨4, .long⟩, ⟨5, .long⟩, ⟨6, .long⟩, ⟨7, .long⟩] } }) ∧
  (∀ s : State, s.rstnLow = false → s.clock.monitor = .searching → s.clock.search = none →
    exec .lockAchieved s = .next { s with clock := { s.clock with monitor := .locked } }) ∧
  (∀ (s : State) (n : Fin 16), s.lossNotices[n] ≠ 0 →
    ∃ t, exec (.referenceLossNotice n) s = .next t ∧
      { t with lossNotices := s.lossNotices, contexts := s.contexts } = s ∧
      t.lossNotices[n] = s.lossNotices[n] - 1 ∧
      (∀ m, m ≠ n → t.ctx m = s.ctx m ∧ t.lossNotices[m] = s.lossNotices[m]) ∧
      ((((s.ctx n).config.kind = .frequency ∧ ((s.ctx n).state = .gating ∨ (s.ctx n).state = .closing)) ∨
          ((s.ctx n).config.kind = .interval ∧
            ((s.ctx n).state = .gating ∨ ((s.ctx n).state = .starting ∧ (s.ctx n).live.batchOpen = true))) ∨
          ((s.ctx n).config.kind = .totalize ∧ (s.ctx n).state = .gating)) →
        t.ctx n = { s.ctx n with live := { (s.ctx n).live with flags := { (s.ctx n).live.flags with ref := true } } }) ∧
      (¬(((s.ctx n).config.kind = .frequency ∧ ((s.ctx n).state = .gating ∨ (s.ctx n).state = .closing)) ∨
          ((s.ctx n).config.kind = .interval ∧
            ((s.ctx n).state = .gating ∨ ((s.ctx n).state = .starting ∧ (s.ctx n).live.batchOpen = true))) ∨
          ((s.ctx n).config.kind = .totalize ∧ (s.ctx n).state = .gating)) →
        t.ctx n = s.ctx n))

/-- While a context is active the timescale is never loaded: whatever is executed, if some context is active afterwards, the timescale has
stood or moved on by one (R4, R6, R14). -/
def Obligations.NoLoadUnderActiveContext : Prop :=
  ∀ (c : Instr) (s t : State), c ≠ .powerOnReset → exec c s = .next t → (∃ n, Active t n) →
    t.clock.timescale = s.clock.timescale ∨ t.clock.timescale = s.clock.timescale + 1

/-- The coarse tick of a stamp and the stamp of a tick (R12), the stamp of an edge as R11 forms it and its own edge tick back, and the
order of stamps and of ticks (R13). -/
def Obligations.StampsAndTicks : Prop :=
  (∀ (k : Tick) (f : BitVec 12), (stampOf k f).toNat = (4096 * k.toNat + 2 ^ 60 - f.toNat) % 2 ^ 60 ∧ tickOfStamp (stampOf k f) = k) ∧
  (∀ x : Stamp, ∃ k : Nat, x.toNat ≤ 4096 * k ∧ (∀ j, x.toNat ≤ 4096 * j → k ≤ j) ∧ (tickOfStamp x).toNat = k % 2 ^ 48) ∧
  (∀ k : Tick, (stampOfTick k).toNat = 4096 * k.toNat) ∧
  (∀ a b : Stamp,
    (laterStamp b a = true ↔ 1 ≤ (b.toNat + 2 ^ 60 - a.toNat) % 2 ^ 60 ∧ (b.toNat + 2 ^ 60 - a.toNat) % 2 ^ 60 ≤ 2 ^ 59 - 1) ∧
    (atLeastStamp b a = true ↔ laterStamp b a = true ∨ b = a) ∧ ¬(laterStamp a b = true ∧ laterStamp b a = true)) ∧
  (∀ a b : Tick,
    (laterTick b a = true ↔ 1 ≤ (b.toNat + 2 ^ 48 - a.toNat) % 2 ^ 48 ∧ (b.toNat + 2 ^ 48 - a.toNat) % 2 ^ 48 ≤ 2 ^ 47 - 1) ∧
    ¬(laterTick a b = true ∧ laterTick b a = true))

/-! ## The input channels -/

/-- CONFIGURE CHANNEL: its checks in their order (R17), and what a taken command sets (R18). -/
def Obligations.ConfigureChannelJudged : Prop :=
  (∀ (s : State) (k en pol : Byte) (h : BitVec 16), InFrame s → 8 ≤ k.toNat →
    exec (.configureChannel k en pol h) s = .next (refusedWith 5 s .range)) ∧
  ∀ (s : State) (k en pol : Byte) (h : BitVec 16) (c : Fin 8), InFrame s → k.toNat = c.val →
    ((2 ≤ en.toNat ∨ 3 ≤ pol.toNat) → exec (.configureChannel k en pol h) s = .next (refusedWith 5 s .badField)) ∧
    (en.toNat < 2 → pol.toNat < 3 →
      ((HeldByContext s c ∨ s.engine.phase c ≠ .none) →
        exec (.configureChannel k en pol h) s = .next (refusedWith 5 s .inUse)) ∧
      (¬HeldByContext s c → s.engine.phase c = .none →
        ∃ t, exec (.configureChannel k en pol h) s = .next (answered 5 t (if 4095 < h.toNat then .clamped else .ok) [] .none) ∧
          { t with channels := s.channels } = s ∧ (∀ d, d ≠ c → t.channel d = s.channel d) ∧
          ((t.channel c).enable = true ↔ en = 1) ∧
          (pol = 0 → (t.channel c).polarity = .rise) ∧ (pol = 1 → (t.channel c).polarity = .fall) ∧
          (pol = 2 → (t.channel c).polarity = .both) ∧
          (t.channel c).holdoff.toNat = min 4095 h.toNat ∧ (t.channel c).rising = 0 ∧ (t.channel c).falling = 0 ∧
          (t.channel c).lastAccepted = none ∧ (t.channel c).lastStamped = none))

/-- READ CHANNEL returns the configuration, the phase and both counters without the accepted edges whose edge ticks are later than the
latest tick, and changes nothing (R33, R177). A counter sampled at a tick leaves out the edges whose edge ticks are later (R23), and a context
of sense ANY samples the sum of both counters (R128). Sense RISE takes rising edges, FALL falling ones and ANY both (R32, R90). The edges are
kept in the model's own log (log 6). -/
def Obligations.ReadChannelReturns : Prop :=
  (∀ (x : Channel) (k : Nat),
    x.sample k .rise = x.rising - BitVec.ofNat 48 (x.log.filter fun e => decide (e.sense = .rise) && decide (k < e.tick)).length ∧
    x.sample k .fall = x.falling - BitVec.ofNat 48 (x.log.filter fun e => decide (e.sense = .fall) && decide (k < e.tick)).length ∧
    (x.sample k .any).toNat = ((x.sample k .rise).toNat + (x.sample k .fall).toNat) % 2 ^ 48) ∧
  (∀ e : EdgeSense,
    (Sense.rise.takes e = true ↔ e = .rise) ∧ (Sense.fall.takes e = true ↔ e = .fall) ∧ Sense.any.takes e = true) ∧
  ∀ (s : State) (k : Byte) (c : Fin 8), InFrame s → k.toNat = c.val →
    ∃ en pol ph : Byte,
      exec (.readChannel k) s =
        .next (takenWith 1 s
          ([en, pol] ++ bytesOf 2 (s.channel c).holdoff.toNat ++ [ph] ++
            bytesOf 6 ((s.channel c).rising - BitVec.ofNat 48
              (((s.channel c).log.filter fun e => decide (e.sense = .rise) && decide (s.clock.elapsed < e.tick)).length)).toNat ++
            bytesOf 6 ((s.channel c).falling - BitVec.ofNat 48
              (((s.channel c).log.filter fun e => decide (e.sense = .fall) && decide (s.clock.elapsed < e.tick)).length)).toNat)) ∧
      en = (if (s.channel c).enable then 1 else 0) ∧
      ((s.channel c).polarity = .rise → pol = 0) ∧ ((s.channel c).polarity = .fall → pol = 1) ∧
      ((s.channel c).polarity = .both → pol = 2) ∧
      (s.engine.phase c = .none → ph = 0) ∧ (s.engine.phase c = .shortWait → ph = 1) ∧ (s.engine.phase c = .shortRun → ph = 2) ∧
      (s.engine.phase c = .longWait → ph = 3) ∧ (s.engine.phase c = .longRun → ph = 4)

/-- A disabled channel, one in LONG_RUN, an edge of a sense the polarity does not admit and an edge held off leave no trace (R20, R21, R30,
R31). When an edge falls is log 5's choice. -/
def Obligations.RejectedEdgesLeaveNoTrace : Prop :=
  ∀ (s : State) (c : Fin 8) (sense : EdgeSense) (raw : Byte) (before : BitVec 12),
    ((s.channel c).enable = false ∨ s.engine.phase c = .longRun ∨
      ((s.channel c).polarity = .rise ∧ sense = .fall) ∨ ((s.channel c).polarity = .fall ∧ sense = .rise) ∨
      (0 < (s.channel c).holdoff.toNat ∧
        ∃ last, (s.channel c).lastAccepted = some last ∧ s.clock.elapsed + 1 ≤ last + (s.channel c).holdoff.toNat)) →
    exec (.inputEdge c sense raw before) s = .next s

/-- An accepted edge is counted in the counter of its sense and restarts the holdoff history (R21, R22); more than 8 ns after the last
stamped edge it is stamped and sent as a message with its fine value, count, generation and unlocked marker, and is a hit of a short
calibration that runs on the channel (R24, R25, R26, R45); otherwise it is sent as a notice (R27). Each item goes to the contexts on the
channel's list (R28). `before` places the edge ahead of its edge tick (log 5); the absolute histories and the recipients held with an item are the
model's (log 6, log 8). -/
def Obligations.AcceptedEdgesAreCountedAndSent : Prop :=
  ∀ (s : State) (c : Fin 8) (sense : EdgeSense) (raw : Byte) (before : BitVec 12),
    s.rstnLow = false → (s.channel c).enable = true → s.engine.phase c ≠ .longRun →
    ((s.channel c).polarity = .both ∨ ((s.channel c).polarity = .rise ∧ sense = .rise) ∨
      ((s.channel c).polarity = .fall ∧ sense = .fall)) →
    ((s.channel c).holdoff.toNat = 0 ∨ ∀ last, (s.channel c).lastAccepted = some last →
      last + (s.channel c).holdoff.toNat < s.clock.elapsed + 1) →
    ∃ t i, exec (.inputEdge c sense raw before) s = .next t ∧
      { t with channels := s.channels, engine := s.engine, bus := s.bus } = s ∧
      (∀ d, d ≠ c → t.channel d = s.channel d) ∧
      (t.channel c).rising = (if sense = .rise then (s.channel c).rising + 1 else (s.channel c).rising) ∧
      (t.channel c).falling = (if sense = .fall then (s.channel c).falling + 1 else (s.channel c).falling) ∧
      (t.channel c).lastAccepted = some (s.clock.elapsed + 1) ∧ (t.channel c).log = ⟨s.clock.elapsed + 1, sense⟩ :: (s.channel c).log ∧
      (t.channel c).enable = true ∧ (t.channel c).polarity = (s.channel c).polarity ∧ (t.channel c).holdoff = (s.channel c).holdoff ∧
      ((s.recipientsOf c = [] → t.bus = s.bus) ∧ (s.recipientsOf c ≠ [] → t.bus = s.bus ++ [i])) ∧
      i.channel = c ∧ i.sense = sense ∧ i.tick = s.clock.timescale + 1 ∧ i.edgeTick = s.clock.elapsed + 1 ∧
      i.time = 4096 * (s.clock.elapsed + 1) - before.toNat ∧ i.recipients = s.recipientsOf c ∧
      (∀ n, n ∈ i.recipients ↔ ∃ r, (n, r) ∈ s.listenersOf c) ∧
      ((∀ last, (s.channel c).lastStamped = some last → last + 8192 < i.time) →
        (t.channel c).lastStamped = some i.time ∧
        i.stamped = some
          ⟨s.engine.tables[c][raw.toFin],
            (if sense = .rise then (t.channel c).rising else (t.channel c).falling),
            s.engine.generations[c], decide (s.clock.monitor ≠ .locked)⟩ ∧
        (∀ r, s.engine.running = some r → r.channel = c → r.kind = .short → r.hits < 8192 →
          t.engine = { s.engine with
            histogram := s.engine.histogram.set raw.toFin (s.engine.histogram[raw.toFin] + 1)
            running := some { r with hits := r.hits + 1 } }) ∧
        ((∀ r, s.engine.running = some r → ¬(r.channel = c ∧ r.kind = .short ∧ r.hits < 8192)) → t.engine = s.engine)) ∧
      ((∃ last, (s.channel c).lastStamped = some last ∧ i.time ≤ last + 8192) →
        (t.channel c).lastStamped = (s.channel c).lastStamped ∧ i.stamped = none ∧ t.engine = s.engine)

/-! ## Calibration -/

/-- The calibration phase is the first line of R37's table that applies. READ CALIBRATION returns it with the outcome record, the hits, the
queue position and the drift limit (R55). READ TABLE copies the table and its generation, and its units are the copy's values from the start
code on, wrapping from 255 to 0 (R56; how the port holds the copy is log 21's choice). Neither changes the part. -/
def Obligations.CalibrationReadBack : Prop :=
  (∀ (s : State) (c : Fin 8),
    (s.engine.phase c = .longRun ↔ ∃ r, s.engine.running = some r ∧ r.channel = c ∧ r.kind = .long) ∧
    (s.engine.phase c = .longWait ↔ s.engine.phase c ≠ .longRun ∧ ⟨c, .long⟩ ∈ s.engine.queue) ∧
    (s.engine.phase c = .shortRun ↔ s.engine.phase c ≠ .longRun ∧ ⟨c, .long⟩ ∉ s.engine.queue ∧
      ∃ r, s.engine.running = some r ∧ r.channel = c ∧ r.kind = .short) ∧
    (s.engine.phase c = .shortWait ↔ s.engine.phase c ≠ .longRun ∧ ⟨c, .long⟩ ∉ s.engine.queue ∧ s.engine.phase c ≠ .shortRun ∧
      ⟨c, .short⟩ ∈ s.engine.queue)) ∧
  (∀ (s : State) (k : Byte), InFrame s → 8 ≤ k.toNat → exec (.readCalibration k) s = .next (refusedWith 1 s .range)) ∧
  (∀ (s : State) (k : Byte) (c : Fin 8), InFrame s → k.toNat = c.val →
    ∃ (ph kind outcome : Byte) (hits position : Nat),
      exec (.readCalibration k) s =
        .next (takenWith 1 s
          ([ph, kind, outcome] ++ bytesOf 2 s.engine.outcomes[c].drift.toNat ++ [s.engine.generations[c]] ++ bytesOf 3 hits ++
            bytesOf 1 position ++ bytesOf 2 s.engine.driftLimit.toNat)) ∧
      ph = phaseCode (s.engine.phase c) ∧
      kind = (match s.engine.outcomes[c].lastKind with | none => 0 | some .short => 1 | some .long => 2) ∧
      outcome = (match s.engine.outcomes[c].outcome with
        | .none => 0 | .done => 1 | .timeout => 2 | .correlated => 3 | .aborted => 4) ∧
      (∀ r, s.engine.running = some r → r.channel = c → hits = r.hits) ∧
      ((∀ r, s.engine.running = some r → r.channel ≠ c) → hits = 0) ∧
      (position = 0 ↔ ∀ x ∈ s.engine.queue, x.channel ≠ c) ∧
      ∀ j, position = j + 1 →
        (∃ x, s.engine.queue[j]? = some x ∧ x.channel = c) ∧ ∀ m x, m < j → s.engine.queue[m]? = some x → x.channel ≠ c) ∧
  (∀ (s : State) (k start : Byte) (c : Fin 8), InFrame s → k.toNat = c.val →
    exec (.readTable k start) s =
      .next (answered 2 s .ok [s.engine.generations[c]] (.table s.engine.tables[c] start))) ∧
  (∀ (copy : FineTable) (start : Byte) (k : Nat) (r : Fin 256), r.val = (start.toNat + k) % 256 →
    tableUnit copy start k = bytesOf 2 copy[r].toNat)

/-- CALIBRATE during INIT answers NOT_READY, every channel too. Outside it a kind outside its set answers BAD_FIELD eight times over;
otherwise the masked channels are judged one at a time in channel order, under R41 for LONG and R42 for SHORT, and the result code is the
lowest refused channel's, else ALREADY, else OK (R40). -/
def Obligations.CalibrateJudgesEachChannel : Prop :=
  (∀ (s : State) (mask kind : Byte), InFrame s → s.engine.init = true →
    exec (.calibrate mask kind) s = .next (answered 2 s .notReady (List.replicate 8 0x11) .none)) ∧
  ∀ (s : State) (mask kind : Byte), InFrame s → s.engine.init = false →
    (2 ≤ kind.toNat → exec (.calibrate mask kind) s = .next (answered 2 s .badField (List.replicate 8 0x14) .none)) ∧
    (kind.toNat < 2 →
      ∃ (code : ResultCode) (answers : List ResultCode) (t : State),
        exec (.calibrate mask kind) s = .next (answered 2 t code (answers.map ResultCode.code) .none) ∧
        (kind = 1 → ChannelByChannel LongAnswer mask s answers t) ∧ (kind = 0 → ChannelByChannel ShortAnswer mask s answers t) ∧
        (∀ before a after, answers = before ++ a :: after → (∀ x ∈ before, x.isRefusal = false) → a.isRefusal = true → code = a) ∧
        ((∀ x ∈ answers, x.isRefusal = false) → .already ∈ answers → code = .already) ∧
        ((∀ x ∈ answers, x.isRefusal = false) → .already ∉ answers → code = .ok))

/-- ABORT CALIBRATION outside INIT treats each masked channel as R51 gives; its code is ALREADY exactly when the mask is not empty and every
masked channel answered ALREADY. -/
def Obligations.AbortCalibrationStopsEachChannel : Prop :=
  ∀ (s : State) (mask : Byte), InFrame s → s.engine.init = false →
    ∃ (code : ResultCode) (answers : List ResultCode) (t : State),
      exec (.abortCalibration mask) s = .next (answered 1 t code (answers.map ResultCode.code) .none) ∧
      ChannelByChannel AbortAnswer mask s answers t ∧
      (code = .ok ∨ code = .already) ∧
      (code = .already ↔ mask ≠ 0 ∧ ∀ c : Fin 8, mask.getLsbD c.val = true → answers[c.val]? = some .already)

/-- The idle engine takes the head of the queue with an empty histogram (R39); a ring-oscillator hit of an incomplete long calibration adds
one to its bin and to the hit count, and after the 65,536th nothing is converted (R43). The taking is a step of its own
(log 25). -/
def Obligations.CalibrationStartsAndCollects : Prop :=
  (∀ (s : State) (x : CalEntry) (rest : List CalEntry), s.engine.running = none → s.engine.queue = x :: rest →
    ∃ t, exec .calibrationStart s = .next t ∧ { t with engine := s.engine } = s ∧
      t.engine.running = some ⟨x.channel, x.kind, 0, 0⟩ ∧ t.engine.queue = rest ∧ (∀ r : Fin 256, t.engine.histogram[r] = 0) ∧
      t.engine.tables = s.engine.tables ∧ t.engine.generations = s.engine.generations ∧ t.engine.outcomes = s.engine.outcomes ∧
      t.engine.driftLimit = s.engine.driftLimit ∧ t.engine.init = s.engine.init) ∧
  (∀ (s : State) (r : Running) (raw : Byte), s.engine.running = some r → r.kind = .long →
    (r.hits < 65536 →
      ∃ t, exec (.ringOscillatorHit raw) s = .next t ∧ { t with engine := s.engine } = s ∧
        t.engine.running = some { r with hits := r.hits + 1 } ∧
        t.engine.histogram[raw.toFin] = s.engine.histogram[raw.toFin] + 1 ∧
        (∀ k : Fin 256, k ≠ raw.toFin → t.engine.histogram[k] = s.engine.histogram[k]) ∧
        t.engine.queue = s.engine.queue ∧ t.engine.tables = s.engine.tables ∧ t.engine.generations = s.engine.generations ∧
        t.engine.outcomes = s.engine.outcomes ∧ t.engine.driftLimit = s.engine.driftLimit ∧ t.engine.init = s.engine.init) ∧
    (65536 ≤ r.hits → exec (.ringOscillatorHit raw) s = .next s))

/-- The completion of a long calibration (R44, R48): a histogram with no bin above 8,192 installs the fresh table outright, advances the
generation and raises DONE; any other leaves both, with outcome CORRELATED and FAILED. The histories are emptied, the engine becomes idle
and, at channel 7, INIT clears (R57). -/
def Obligations.LongCalibrationCompletes : Prop :=
  ∀ (s : State) (r : Running), s.engine.running = some r → r.kind = .long → r.hits = 65536 →
    ∃ (t : State) (d : BitVec 12), exec .longCalibrationComplete s = .next t ∧
      { t with engine := s.engine, channels := s.channels, attention := s.attention } = s ∧
      t.engine.running = none ∧ t.engine.queue = s.engine.queue ∧ t.engine.driftLimit = s.engine.driftLimit ∧
      t.engine.init = (s.engine.init && decide (r.channel ≠ 7)) ∧
      ((∀ x ∈ s.engine.queue, x.channel ≠ r.channel) → t.engine.phase r.channel = .none) ∧
      t.channel r.channel = { s.channel r.channel with lastAccepted := none, lastStamped := none } ∧
      (∀ c, c ≠ r.channel → t.channel c = s.channel c) ∧
      (∀ c : Fin 8, c ≠ r.channel → t.engine.tables[c] = s.engine.tables[c] ∧ t.engine.generations[c] = s.engine.generations[c] ∧
        t.engine.outcomes[c] = s.engine.outcomes[c]) ∧
      ((∀ k : Fin 256, s.engine.histogram[k].toNat ≤ 8192) →
        t.engine.tables[r.channel] = freshTable s.engine.histogram 65536 ∧
        t.engine.generations[r.channel] = s.engine.generations[r.channel] + 1 ∧
        t.engine.outcomes[r.channel] = ⟨some .long, .done, d⟩ ∧ Raised sourceCalibration 0b0001#4 s t ∧
        (∀ k : Fin 256, fineGap t.engine.tables[r.channel][k] s.engine.tables[r.channel][k] ≤ d.toNat) ∧
        ∃ k : Fin 256, fineGap t.engine.tables[r.channel][k] s.engine.tables[r.channel][k] = d.toNat) ∧
      ((∃ k : Fin 256, 8192 < s.engine.histogram[k].toNat) →
        t.engine.tables[r.channel] = s.engine.tables[r.channel] ∧
        t.engine.generations[r.channel] = s.engine.generations[r.channel] ∧
        t.engine.outcomes[r.channel] = ⟨some .long, .correlated, 0⟩ ∧ Raised sourceCalibration 0b0010#4 s t)

/-- The completion of a short calibration (R48, R49): a histogram with no bin above 1,024 installs floor((3·old + fresh + 2)/4), advances
the generation and raises DONE, and DRIFT where the drift exceeds the limit in force; any other ends CORRELATED with FAILED. -/
def Obligations.ShortCalibrationCompletes : Prop :=
  ∀ (s : State) (r : Running), s.engine.running = some r → r.kind = .short → r.hits = 8192 →
    ∃ (t : State) (d : BitVec 12), exec .shortCalibrationComplete s = .next t ∧
      { t with engine := s.engine, attention := s.attention } = s ∧
      t.engine.running = none ∧ t.engine.queue = s.engine.queue ∧ t.engine.driftLimit = s.engine.driftLimit ∧
      t.engine.init = s.engine.init ∧
      (⟨r.channel, .long⟩ ∈ s.engine.queue → t.engine.phase r.channel = .longWait) ∧
      ((∀ x ∈ s.engine.queue, x.channel ≠ r.channel) → t.engine.phase r.channel = .none) ∧
      (∀ c : Fin 8, c ≠ r.channel → t.engine.tables[c] = s.engine.tables[c] ∧ t.engine.generations[c] = s.engine.generations[c] ∧
        t.engine.outcomes[c] = s.engine.outcomes[c]) ∧
      ((∀ k : Fin 256, s.engine.histogram[k].toNat ≤ 1024) →
        (∀ k : Fin 256, t.engine.tables[r.channel][k].toNat =
          (3 * s.engine.tables[r.channel][k].toNat + (freshTable s.engine.histogram 8192)[k].toNat + 2) / 4) ∧
        t.engine.generations[r.channel] = s.engine.generations[r.channel] + 1 ∧
        t.engine.outcomes[r.channel] = ⟨some .short, .done, d⟩ ∧
        Raised sourceCalibration (if s.engine.driftLimit < d then 0b0101#4 else 0b0001#4) s t ∧
        (∀ k : Fin 256, fineGap (freshTable s.engine.histogram 8192)[k] s.engine.tables[r.channel][k] ≤ d.toNat) ∧
        ∃ k : Fin 256, fineGap (freshTable s.engine.histogram 8192)[k] s.engine.tables[r.channel][k] = d.toNat) ∧
      ((∃ k : Fin 256, 1024 < s.engine.histogram[k].toNat) →
        t.engine.tables[r.channel] = s.engine.tables[r.channel] ∧
        t.engine.generations[r.channel] = s.engine.generations[r.channel] ∧
        t.engine.outcomes[r.channel] = ⟨some .short, .correlated, 0⟩ ∧ Raised sourceCalibration 0b0010#4 s t)

/-- A short calibration that has not its 8,192 hits after 2,500,000,000 elapsed ticks ends with outcome TIMEOUT and FAILED, table and
generation unchanged (R46; the very tick is log 14's reading). -/
def Obligations.ShortCalibrationTimesOut : Prop :=
  ∀ (s : State) (r : Running), s.engine.running = some r → r.kind = .short → r.ticks = 2500000000 → r.hits < 8192 →
    ∃ t, exec .shortCalibrationTimeout s = .next t ∧ { t with engine := s.engine, attention := s.attention } = s ∧
      t.engine.running = none ∧ t.engine.queue = s.engine.queue ∧ t.engine.tables = s.engine.tables ∧
      t.engine.generations = s.engine.generations ∧ t.engine.driftLimit = s.engine.driftLimit ∧ t.engine.init = s.engine.init ∧
      t.engine.outcomes[r.channel] = ⟨some .short, .timeout, 0⟩ ∧
      (∀ c : Fin 8, c ≠ r.channel → t.engine.outcomes[c] = s.engine.outcomes[c]) ∧
      (⟨r.channel, .long⟩ ∈ s.engine.queue → t.engine.phase r.channel = .longWait) ∧
      ((∀ x ∈ s.engine.queue, x.channel ≠ r.channel) → t.engine.phase r.channel = .none) ∧
      Raised sourceCalibration 0b0010#4 s t

/-- The fresh value of a code is (C(r−1) + C(r))·4096/(2·N) rounded half up and at most 4095, and fresh values never fall (R47). -/
def Obligations.FreshTableIsCodeDensity : Prop :=
  ∀ (h : Histogram) (hits : Nat), 0 < hits →
    (∀ (r : Fin 256) (below upTo : Nat),
      below = (∑ k ∈ Finset.univ.filter (fun k : Fin 256 => k < r), h[k].toNat) →
      upTo = (∑ k ∈ Finset.univ.filter (fun k : Fin 256 => k ≤ r), h[k].toNat) →
      ∃ q : Nat, (freshTable h hits)[r].toNat = min 4095 q ∧
        4 * hits * q ≤ 2 * ((below + upTo) * 4096) + 2 * hits ∧ 2 * ((below + upTo) * 4096) + 2 * hits < 4 * hits * (q + 1)) ∧
    ∀ r k : Fin 256, r ≤ k → (freshTable h hits)[r] ≤ (freshTable h hits)[k]

/-! ## Measurement contexts: commands -/

/-- DEFINE CONTEXT: its checks in the order of R70, and what a taken one makes of the context, its source and the listener lists, with
the clamping of R72 (R60, R68, R69, R71). -/
def Obligations.DefineContextJudged : Prop :=
  (∀ (s : State) (k : Byte) (b : ConfigBlock), InFrame s → 16 ≤ k.toNat →
    exec (.defineContext k b) s = .next (refusedWith 46 s .range)) ∧
  ∀ (s : State) (k : Byte) (b : ConfigBlock) (n : Fin 16), InFrame s → k.toNat = n.val →
    let total := decide (b.kind = 3)
    let interval := decide (b.kind = 2)
    let hasB := interval || (total && decide (b.gateMode = 1))
    let hasArm := decide (b.armMode = 2)
    let hasG := decide (b.kind = 1) || (total && decide (b.gateMode = 0))
    let defined := (s.ctx n).state = .free ∨ (s.ctx n).state = .idle
    let kindAndGate := (1 ≤ b.kind.toNat ∧ b.kind.toNat ≤ 3) ∧ (total = true → b.gateMode.toNat < 3)
    let channels := b.channelA.toNat < 8 ∧ (hasB = true → b.channelB.toNat < 8) ∧ (hasArm = true → b.armChannel.toNat < 8)
    let enums := b.senseA.toNat < 3 ∧ (hasB = true → b.senseB.toNat < 3) ∧ (hasArm = true → b.armSense.toNat < 3) ∧
      b.armMode.toNat < 3 ∧ b.runMode.toNat < 2 ∧ b.limitEnable.toNat < 2 ∧ (total = true → b.totalMode.toNat < 2)
    let limits := b.limitEnable = 1 → b.lowLimit ≤ b.highLimit
    (¬defined → exec (.defineContext k b) s = .next (refusedWith 46 s .state)) ∧
    (defined → ¬kindAndGate → exec (.defineContext k b) s = .next (refusedWith 46 s .badField)) ∧
    (defined → kindAndGate → ¬channels → exec (.defineContext k b) s = .next (refusedWith 46 s .range)) ∧
    (defined → kindAndGate → channels → ¬enums → exec (.defineContext k b) s = .next (refusedWith 46 s .badField)) ∧
    (defined → kindAndGate → channels → enums → ¬limits → exec (.defineContext k b) s = .next (refusedWith 46 s .badField)) ∧
    (defined → kindAndGate → channels → enums → limits →
      ∃ (t : State) (cfg : CtxConfig) (clamped : Bool),
        exec (.defineContext k b) s = .next (answered 46 t (if clamped then .clamped else .ok) [] .none) ∧
        { t with contexts := s.contexts, attention := s.attention, listeners := s.listeners } = s ∧
        t.ctx n = { Context.free with config := cfg, state := .idle, slot := (s.ctx n).slot } ∧ (∀ m, m ≠ n → t.ctx m = s.ctx m) ∧
        t.source (contextSource n) = { s.source (contextSource n) with events := 0 } ∧
        t.attention.threshold = s.attention.threshold ∧ (∀ id, id ≠ contextSource n → t.source id = s.source id) ∧
        cfg.armTime = 0 ∧
        cfg.toBlock = { b with
          channelB := if hasB then b.channelB else 0
          senseB := if hasB then b.senseB else 0
          armChannel := if hasArm then b.armChannel else 0
          armSense := if hasArm then b.armSense else 0
          gateMode := if total then b.gateMode else 0
          totalMode := if total then b.totalMode else 0
          passCount := if b.passCount = 0 ∧ b.skipCount ≠ 0 then 1 else .ofNat 8 (min 15 b.passCount.toNat)
          skipCount := .ofNat 8 (min 15 b.skipCount.toNat)
          gateTime := if hasG then .ofNat 40 (max 1 (min 100000000000 b.gateTime.toNat)) else 0
          averaging := if interval then .ofNat 16 (max 1 b.averaging.toNat) else 0
          stopDelay := if interval then .ofNat 32 (min 16777215 b.stopDelay.toNat) else 0
          watch := if b.watch = 0 then 100000000 else .ofNat 32 (min 100000000 b.watch.toNat) } ∧
        (clamped = true ↔
          (hasG = true ∧ (b.gateTime = 0 ∨ 100000000000 < b.gateTime.toNat)) ∨
          (interval = true ∧ (b.averaging = 0 ∨ 16777215 < b.stopDelay.toNat)) ∨ 100000000 < b.watch.toNat ∨
          15 < b.passCount.toNat ∨ 15 < b.skipCount.toNat ∨ (b.passCount = 0 ∧ b.skipCount ≠ 0)) ∧
        (∀ c : Fin 8,
          (t.listenersOf c).filter (fun e => decide (e.1 ≠ n)) = (s.listenersOf c).filter (fun e => decide (e.1 ≠ n)) ∧
          (t.listenersOf c).filter (fun e => decide (e.1 = n)) =
            (if cfg.channelA = c then [(n, .a)] else []) ++ (if hasB = true ∧ cfg.channelB = c then [(n, .b)] else []) ++
              (if hasArm = true ∧ cfg.armChannel = c then [(n, .arm)] else [])))

/-- MODIFY CONTEXT: its checks in the order of R73 and the selected changes together, clamped as R72 gives; a selected pattern starts a new
cycle and a selected clearing sets T to 0 (R62, R64, R74). -/
def Obligations.ModifyContextJudged : Prop :=
  (∀ (s : State) (k : Byte) (sel : BitVec 16) (v : ModifyBlock), InFrame s → 16 ≤ k.toNat →
    exec (.modifyContext k sel v) s = .next (refusedWith 34 s .range)) ∧
  ∀ (s : State) (k : Byte) (sel : BitVec 16) (v : ModifyBlock) (n : Fin 16), InFrame s → k.toNat = n.val →
    let c := s.ctx n
    let bit := fun j : Nat => sel.getLsbD j
    let free := c.state = .free
    let fixed := ∃ j, 7 ≤ j ∧ j ≤ 13 ∧ bit j = true
    let notHeld :=
      (bit 3 = true ∧ c.config.kind ≠ .frequency ∧ ¬(c.config.kind = .totalize ∧ c.config.gateMode = .time)) ∨
      (bit 5 = true ∧ c.config.kind ≠ .interval) ∨ (bit 6 = true ∧ c.config.kind ≠ .totalize)
    let enums := (bit 0 = true → v.limitEnable.toNat < 2) ∧ (bit 2 = true → v.runMode.toNat < 2)
    let lim := if bit 0 then decide (v.limitEnable = 1) else c.config.limitEnable
    let lo := if bit 0 then v.lowLimit else c.config.lowLimit
    let hi := if bit 0 then v.highLimit else c.config.highLimit
    let limits := lim = true → lo ≤ hi
    (free → exec (.modifyContext k sel v) s = .next (refusedWith 34 s .state)) ∧
    (¬free → fixed → exec (.modifyContext k sel v) s = .next (refusedWith 34 s .badField)) ∧
    (¬free → ¬fixed → notHeld → exec (.modifyContext k sel v) s = .next (refusedWith 34 s .badField)) ∧
    (¬free → ¬fixed → ¬notHeld → ¬enums → exec (.modifyContext k sel v) s = .next (refusedWith 34 s .badField)) ∧
    (¬free → ¬fixed → ¬notHeld → enums → ¬limits → exec (.modifyContext k sel v) s = .next (refusedWith 34 s .badField)) ∧
    (¬free → ¬fixed → ¬notHeld → enums → limits →
      ∃ (t : State) (clamped : Bool),
        exec (.modifyContext k sel v) s = .next (answered 34 t (if clamped then .clamped else .ok) [] .none) ∧
        { t with contexts := s.contexts } = s ∧ (∀ m, m ≠ n → t.ctx m = s.ctx m) ∧
        t.ctx n = { c with
          config := { c.config with
            limitEnable := lim
            lowLimit := lo
            highLimit := hi
            passCount :=
              if bit 1 then
                (if v.passCount = 0 ∧ v.skipCount ≠ 0 then 1 else .ofNat 8 (min 15 v.passCount.toNat))
              else c.config.passCount
            skipCount := if bit 1 then .ofNat 8 (min 15 v.skipCount.toNat) else c.config.skipCount
            runMode := if bit 2 then (if v.runMode = 0 then .single else .continuous) else c.config.runMode
            gateTime := if bit 3 then .ofNat 40 (max 1 (min 100000000000 v.gateTime.toNat)) else c.config.gateTime
            watch :=
              if bit 4 then (if v.watch = 0 then 100000000 else .ofNat 32 (min 100000000 v.watch.toNat)) else c.config.watch
            averaging := if bit 5 then .ofNat 16 (max 1 v.averaging.toNat) else c.config.averaging }
          position := if bit 1 then 0 else c.position
          total := if bit 6 then 0 else c.total } ∧
        (clamped = true ↔
          (bit 1 = true ∧ (15 < v.passCount.toNat ∨ 15 < v.skipCount.toNat ∨ (v.passCount = 0 ∧ v.skipCount ≠ 0))) ∨
          (bit 3 = true ∧ (v.gateTime = 0 ∨ 100000000000 < v.gateTime.toNat)) ∨ (bit 4 = true ∧ 100000000 < v.watch.toNat) ∨
          (bit 5 = true ∧ v.averaging = 0)))

/-- ARM's checks on the state, on service (R19), on senses against polarities (R32) and on a window's channel B, in the order of R76. -/
def Obligations.ArmRefusedInOrder : Prop :=
  ∀ (s : State) (k : Byte) (a : Tick) (n : Fin 16), InFrame s → k.toNat = n.val → s.engine.init = false →
    let c := s.ctx n
    let serving := ∀ r ∈ c.config.roles, Serving s r.2.1
    let admitted := ∀ r ∈ c.config.roles,
      (s.channel r.2.1).polarity = .both ∨ r.2.2 = .any ∨ ((s.channel r.2.1).polarity = .rise ∧ r.2.2 = .rise) ∨
        ((s.channel r.2.1).polarity = .fall ∧ r.2.2 = .fall)
    let window := c.config.kind = .totalize → c.config.gateMode = .window →
      (s.channel c.config.channelB).polarity = .both ∧ c.config.senseB ≠ .any
    (c.state ≠ .idle → exec (.arm k a) s = .next (refusedWith 7 s .state)) ∧
    (c.state = .idle → ¬serving → exec (.arm k a) s = .next (refusedWith 7 s .notReady)) ∧
    (c.state = .idle → serving → ¬admitted → exec (.arm k a) s = .next (refusedWith 7 s .badField)) ∧
    (c.state = .idle → serving → admitted → ¬window → exec (.arm k a) s = .next (refusedWith 7 s .badField)) ∧
    (c.state = .idle → serving → admitted → window → ∃ t, exec (.arm k a) s = .next (answered 7 t .ok [] .none))

/-- A taken ARM prepares the context (R77) and takes its arm mode: an ON_EDGE context waits in ARMED (R79); an AT_TIME one waits there for an
arm time 1 to 2^47 − 1 ticks ahead and is otherwise fulfilled now, with LATE pending unless the arm time is now (R15, R78); an IMMEDIATE one
is fulfilled now, as R80 gives by kind. The ARM's tick and elapsed tick held among the live figures are the model's (log 17). -/
def Obligations.ArmTakesItsMode : Prop :=
  ∀ (s : State) (k : Byte) (a : Tick) (n : Fin 16), InFrame s → k.toNat = n.val → s.engine.init = false →
    (s.ctx n).state = .idle → (∀ r ∈ (s.ctx n).config.roles, Serving s r.2.1) →
    (∀ r ∈ (s.ctx n).config.roles,
      (s.channel r.2.1).polarity = .both ∨ r.2.2 = .any ∨ ((s.channel r.2.1).polarity = .rise ∧ r.2.2 = .rise) ∨
        ((s.channel r.2.1).polarity = .fall ∧ r.2.2 = .fall)) →
    ((s.ctx n).config.kind = .totalize → (s.ctx n).config.gateMode = .window →
      (s.channel (s.ctx n).config.channelB).polarity = .both ∧ (s.ctx n).config.senseB ≠ .any) →
    let c := s.ctx n
    let now : Boundary := ⟨s.clock.timescale, s.clock.elapsed⟩
    let ahead := (a.toNat + 2 ^ 48 - s.clock.timescale.toNat) % 2 ^ 48
    let prepared := fun (cfg : CtxConfig) (state : CtxState) (late : Bool) =>
      s.setCtx n { c with
        config := cfg
        state := state
        live := { Live.zero with armTick := s.clock.timescale, armElapsed := s.clock.elapsed }
        position := 0
        latePending := late }
    let unlocked := decide (s.clock.monitor ≠ .locked)
    (c.config.armMode = .onEdge → exec (.arm k a) s = .next (takenWith 7 (prepared c.config .armed false) [])) ∧
    (c.config.armMode = .immediate →
      ∃ t, exec (.arm k a) s = .next (takenWith 7 t []) ∧
        Fulfilled n now (stampOfTick s.clock.timescale) unlocked (prepared c.config .idle false) t) ∧
    (c.config.armMode = .atTime →
      (1 ≤ ahead ∧ ahead ≤ 2 ^ 47 - 1 →
        exec (.arm k a) s = .next (takenWith 7 (prepared { c.config with armTime := a } .armed false) [])) ∧
      (ahead = 0 ∨ 2 ^ 47 ≤ ahead →
        ∃ t, exec (.arm k a) s = .next (takenWith 7 t []) ∧
          Fulfilled n now (stampOfTick s.clock.timescale) unlocked
            (prepared { c.config with armTime := a } .idle (decide (ahead ≠ 0))) t))

/-- ABORT stops an active or SETTLING context at once, takes its closed gates away and voids its work (R83); on an IDLE one it answers OK
with no effect, on a FREE one STATE. RETIRE frees an IDLE context with its entries and causes (R84), and answers STATE in any other state. That
ABORT brings every live figure to 0 is log 13's reading. -/
def Obligations.AbortAndRetire : Prop :=
  ∀ (s : State) (k : Byte) (n : Fin 16), InFrame s → k.toNat = n.val →
    ((s.ctx n).state = .free → exec (.abort k) s = .next (refusedWith 1 s .state)) ∧
    ((s.ctx n).state = .idle → exec (.abort k) s = .next (takenWith 1 s [])) ∧
    (Active s n ∨ (s.ctx n).state = .settling →
      ∃ t, exec (.abort k) s = .next (takenWith 1 t []) ∧ { t with contexts := s.contexts, quotient := s.quotient } = s ∧
        (∀ m, m ≠ n → t.ctx m = s.ctx m) ∧
        t.ctx n = { s.ctx n with live := Live.zero, latePending := false, slot := none, state := .idle } ∧
        t.quotient.queue = s.quotient.queue.filter (fun m => decide (m ≠ n)) ∧
        (∀ w, s.quotient.work = some w → w.context = n → t.quotient.work = some { w with void := true }) ∧
        ((∀ w, s.quotient.work = some w → w.context ≠ n) → t.quotient.work = s.quotient.work)) ∧
    ((s.ctx n).state ≠ .idle → exec (.retire k) s = .next (refusedWith 1 s .state)) ∧
    ((s.ctx n).state = .idle →
      ∃ t, exec (.retire k) s = .next (takenWith 1 t []) ∧
        { t with contexts := s.contexts, attention := s.attention, listeners := s.listeners } = s ∧
        t.ctx n = { Context.free with slot := (s.ctx n).slot } ∧ (∀ m, m ≠ n → t.ctx m = s.ctx m) ∧
        t.source (contextSource n) = { s.source (contextSource n) with events := 0 } ∧
        t.attention.threshold = s.attention.threshold ∧ (∀ id, id ≠ contextSource n → t.source id = s.source id) ∧
        ∀ c, t.listenersOf c = (s.listenersOf c).filter fun e => decide (e.1 ≠ n))

/-- CLOSE GATE closes the open gate of a TOTALIZE MANUAL context at the latest coarse tick and answers STATE otherwise (R133, R136). -/
def Obligations.CloseGateClosesManualGate : Prop :=
  ∀ (s : State) (k : Byte) (n : Fin 16), InFrame s → k.toNat = n.val →
    let c := s.ctx n
    (¬(c.config.kind = .totalize ∧ c.config.gateMode = .manual ∧ c.state = .gating) →
      exec (.closeGate k) s = .next (refusedWith 1 s .state)) ∧
    (c.config.kind = .totalize → c.config.gateMode = .manual → c.state = .gating →
      ∃ t, exec (.closeGate k) s = .next (takenWith 1 t []) ∧
        TotalGateClosed n ⟨s.clock.timescale, s.clock.elapsed⟩
          { c.live.flags with ref := c.live.flags.ref || decide (s.clock.monitor ≠ .locked) } s t ∧
        NextPosition c (t.ctx n))

/-- READ CONTEXT returns 58 bytes (R85, R178) and READ LIVE 49 (R153, R179), as laid out there, states and kinds in the codes of R177; neither
changes anything. -/
def Obligations.ContextReadBack : Prop :=
  (ctxStateCode .free = 0 ∧ ctxStateCode .idle = 1 ∧ ctxStateCode .armed = 2 ∧ ctxStateCode .starting = 3 ∧ ctxStateCode .gating = 4 ∧
    ctxStateCode .closing = 5 ∧ ctxStateCode .settling = 6 ∧ kindCode .none = 0 ∧ kindCode .frequency = 1 ∧ kindCode .interval = 2 ∧
    kindCode .totalize = 3) ∧
  ∀ (s : State) (k : Byte) (n : Fin 16), InFrame s → k.toNat = n.val →
    let c := s.ctx n
    (∃ bytes work, exec (.readContext k) s = .next (takenWith 1 s bytes) ∧ bytes.length = 58 ∧
      bytes = [ctxStateCode c.state] ++ configBlockBytes c.config.toBlock ++ bytesOf 6 c.config.armTime.toNat ++
        bytesOf 2 c.seq.toNat ++
        [c.position, if c.latePending then 1 else 0, if c.slot.isSome then 1 else 0, work] ∧
      ((∃ w, s.quotient.work = some w ∧ w.context = n ∧ w.void = false) → work = 1) ∧
      (¬(∃ w, s.quotient.work = some w ∧ w.context = n ∧ w.void = false) → work = 0)) ∧
    (∃ bytes figures, exec (.readLive k) s = .next (takenWith 1 s bytes) ∧ bytes.length = 49 ∧
      bytes = [ctxStateCode c.state, kindCode c.config.kind] ++ bytesOf 2 c.live.flags.bits.toNat ++
        [if c.live.deadline.isSome then 1 else 0] ++ bytesOf 6 (c.live.deadline.getD 0).toNat ++ figures ∧
      figures.length = 38 ∧
      (c.config.kind = .none → figures = List.replicate 38 0) ∧
      (c.config.kind = .frequency →
        ∃ events ticks : BitVec 48,
          figures = bytesOf 8 c.live.startStamp.toNat ++ bytesOf 6 c.live.expiryTick.toNat ++ bytesOf 6 events.toNat ++
            bytesOf 6 ticks.toNat ++ List.replicate 12 0 ∧
          (c.state = .gating ∨ c.state = .closing →
            ticks = s.clock.timescale - tickOfStamp c.live.startStamp ∧
            (c.config.senseA = .any → events = c.live.edgeTally) ∧
            (c.config.senseA ≠ .any →
              events = (s.channel c.config.channelA).sample s.clock.elapsed c.config.senseA - c.live.startCount)) ∧
          (c.state ≠ .gating → c.state ≠ .closing → events = 0 ∧ ticks = 0)) ∧
      (c.config.kind = .interval →
        figures = bytesOf 2 c.live.batchCount.toNat ++ bytesOf 10 c.live.batchSum.toNat ++ bytesOf 8 c.live.batchMin.toNat ++
          bytesOf 8 c.live.batchMax.toNat ++ bytesOf 8 c.live.firstStart.toNat ++ bytesOf 2 c.live.batchSize.toNat) ∧
      (c.config.kind = .totalize →
        ∃ count : BitVec 48,
          figures = bytesOf 6 c.live.openTick.toNat ++ bytesOf 6 count.toNat ++ bytesOf 6 c.total.toNat ++ List.replicate 20 0 ∧
          (c.state = .gating →
            count = (s.channel c.config.channelA).sample s.clock.elapsed c.config.senseA - c.live.openCount) ∧
          (c.state ≠ .gating → count = 0)))

/-- READ RESULT begins a burst at the given context. At the first byte of a record the port takes a copy of it, 41 bytes as R179 lays out,
clears its fresh and overrun indications and goes on with the next context, 15 followed by 0 (R151, R174). How the port holds what it
sends is log 21's choice. -/
def Obligations.ResultsReadInBursts : Prop :=
  (∀ (s : State) (k : Byte) (n : Fin 16), InFrame s → k.toNat = n.val →
    exec (.readResult k) s = .next (answered 1 s .ok [] (.results n))) ∧
  (∀ (s : State) (n : Fin 16), s.rstnLow = false → s.port.burst = .results n →
    ∃ t bytes, exec .resultRecordSnapshot s = .next t ∧ { t with contexts := s.contexts, port := s.port } = s ∧
      (∀ m, m ≠ n → t.ctx m = s.ctx m) ∧
      t.ctx n = { s.ctx n with record := { (s.ctx n).record with fresh := false, overrun := false } } ∧
      t.resultCause (contextSource n) = 0 ∧
      t.port = { s.port with
        response := s.port.response ++ bytes, burst := .results ⟨(n.val + 1) % 16, Nat.mod_lt _ (by decide)⟩ } ∧
      bytes.length = 41 ∧
      let r := (s.ctx n).record
      let head := fun kind : Byte =>
        [BitVec.ofNat 8 n.val, BitVec.ofNat 8 ((if r.fresh then 1 else 0) + (if r.overrun then 2 else 0)), kind] ++
          bytesOf 2 r.seq.toNat ++ bytesOf 2 r.flags.bits.toNat
      (r.figures = .none → bytes = BitVec.ofNat 8 n.val :: List.replicate 40 0) ∧
      (∀ e span f start, r.figures = .frequency e span f start →
        bytes = head 1 ++ bytesOf 6 e.toNat ++ bytesOf 8 span.toNat ++ bytesOf 8 f.toNat ++ bytesOf 8 start.toNat ++ [0, 0, 0, 0]) ∧
      (∀ count mean lo hi first, r.figures = .interval count mean lo hi first →
        bytes = head 2 ++ bytesOf 2 count.toNat ++ bytesOf 8 mean.toNat ++ bytesOf 8 lo.toNat ++ bytesOf 8 hi.toNat ++
          bytesOf 8 first.toNat) ∧
      (∀ e total opened closed, r.figures = .totalize e total opened closed →
        bytes = head 3 ++ bytesOf 6 e.toNat ++ bytesOf 6 total.toNat ++ bytesOf 6 opened.toNat ++ bytesOf 6 closed.toNat ++
          List.replicate 10 0)) ∧
  (∀ (f : Flags) (k : Nat), f.bits.getLsbD k = true ↔
    (k = 0 ∧ f.sat = true) ∨ (k = 1 ∧ f.limitLow = true) ∨ (k = 2 ∧ f.limitHigh = true) ∨ (k = 3 ∧ f.calSwap = true) ∨
    (k = 4 ∧ f.blind = true) ∨ (k = 5 ∧ f.ref = true) ∨ (k = 6 ∧ f.late = true) ∨ (k = 7 ∧ f.gap = true) ∨
    (k = 8 ∧ f.timeoutClose = true))

/-! ## Measurement contexts: what reaches them -/

/-- The timescale reaches an arm time (R78), the expiry tick of a FREQUENCY gate, which turns to CLOSING with its deadline formed from that tick
(R94), and the expiry tick of a TOTALIZE TIME gate, which closes there (R129, R136). The arm edge of an ON_EDGE context fulfils its arm condition
with its own tick and stamp (R79). A FREQUENCY context may take the reaching up to 249 ticks later (log 29's choice, for R93). The step of a tick
leaves behind nothing that the tick has reached and no item whose delay has come to 250 ticks (R14, R28, R82; log 7). The W and G that a
fulfilment at an arm edge uses, in force at the taking, are log 32's choice. -/
def Obligations.ReachedTicksAndArmEdges : Prop :=
  (∀ (s : State) (n : Fin 16), (s.ctx n).state = .armed → (s.ctx n).config.armMode = .atTime →
    (s.ctx n).config.armTime = s.clock.timescale →
    ∃ t, exec (.armTimeReached n) s = .next t ∧
      Fulfilled n ⟨s.clock.timescale, s.clock.elapsed⟩ (stampOfTick s.clock.timescale) (decide (s.clock.monitor ≠ .locked)) s t) ∧
  (∀ (s : State) (n : Fin 16), (s.ctx n).config.kind = .frequency → (s.ctx n).state = .gating →
    (s.clock.timescale - (s.ctx n).live.expiryTick).toNat < 250 →
    exec (.gateTimeExpiry n) s =
      .next (s.setCtx n { s.ctx n with
        state := .closing
        live := { (s.ctx n).live with deadline := some ((s.ctx n).live.expiryTick + watchLength (s.ctx n)) } })) ∧
  (∀ (s : State) (n : Fin 16), (s.ctx n).state ≠ .gating ∨ 250 ≤ (s.clock.timescale - (s.ctx n).live.expiryTick).toNat →
    exec (.gateTimeExpiry n) s = .next s) ∧
  (∀ (s : State) (n : Fin 16), (s.ctx n).config.kind = .totalize → (s.ctx n).config.gateMode = .time → (s.ctx n).state = .gating →
    (s.ctx n).live.expiryTick = s.clock.timescale →
    ∃ t, exec (.totalizeTimeExpiry n) s = .next t ∧
      TotalGateClosed n ⟨s.clock.timescale, s.clock.elapsed⟩
        { (s.ctx n).live.flags with ref := (s.ctx n).live.flags.ref || decide (s.clock.monitor ≠ .locked) } s t ∧
      NextPosition (s.ctx n) (t.ctx n)) ∧
  (∀ (s : State) (n : Fin 16) (c : Fin 8) (i : BusItem) (x : StampInfo), Arriving s n c i → i.channel = c → i.stamped = some x →
    ListedOn s n c → AfterArm s n i → (s.ctx n).config.kind ≠ .none → (s.ctx n).state = .armed → (s.ctx n).config.armMode = .onEdge →
    (s.ctx n).config.armChannel = c → (s.ctx n).config.armSense.takes i.sense = true →
    laterStamp (stampOf i.tick x.fine) (stampOfTick (s.ctx n).live.armTick) = true →
    ∃ t, exec (.stampedEdgeMessage n c) s = .next t ∧
      Fulfilled n ⟨i.tick, i.edgeTick⟩ (stampOf i.tick x.fine) x.unlocked (handed s n c) t) ∧
  (∀ (e : Instr) (s : State), s.rstnLow = false → (e = .coarseTick ∨ (e = .syncEdge ∧ s.clock.syncMode = .loadOnRise)) →
    ∃ t, exec e s = .next t ∧ (∀ i ∈ t.bus, t.clock.elapsed < i.edgeTick + 250) ∧
      ∀ n : Fin 16,
        let c := t.ctx n
        let watched :=
          (c.config.kind = .frequency ∧ (c.state = .starting ∨ c.state = .closing)) ∨
          (c.config.kind = .interval ∧ (c.state = .starting ∨ c.state = .gating)) ∨
          (c.config.kind = .totalize ∧ c.config.gateMode = .window ∧ (c.state = .starting ∨ c.state = .gating)) ∨
          (c.config.kind = .totalize ∧ c.config.gateMode = .manual ∧ c.state = .gating)
        (c.config.kind ≠ .none → c.state = .armed → c.config.armMode = .atTime → c.config.armTime ≠ s.clock.timescale) ∧
        (watched → 1 ≤ c.config.watch.toNat → c.config.watch.toNat ≤ 100000000 → c.live.deadline ≠ some s.clock.timescale) ∧
        (c.config.kind = .totalize → c.config.gateMode = .time → c.state = .gating → 1 ≤ c.config.gateTime.toNat →
          c.config.gateTime.toNat ≤ 100000000000 → c.live.expiryTick ≠ s.clock.timescale) ∧
        (c.config.kind = .frequency → c.state = .gating → (s.clock.timescale - c.live.expiryTick).toNat ≠ 249))

/-- The watch of a watched wait expires at its deadline tick: TIMEOUT is raised, what was in progress is discarded without a sequence number,
a SINGLE run ends and a CONTINUOUS one waits anew with a deadline from that tick, items no longer tested against the fulfilment (R82, R90,
R105, R106, R123, R124, R130, R132); a MANUAL gate closes there instead, with TIMEOUT_CLOSE (R134). That the figures set aside are then 0 is
log 12's choice; the entry tick and whether the fulfilment is tested are log 17's figures. -/
def Obligations.WatchExpiresAtItsDeadline : Prop :=
  ∀ (s : State) (n : Fin 16), (s.ctx n).live.deadline = some s.clock.timescale →
    let c := s.ctx n
    let discards :=
      (c.config.kind = .frequency ∧ (c.state = .starting ∨ c.state = .closing)) ∨
      (c.config.kind = .interval ∧ (c.state = .starting ∨ c.state = .gating)) ∨
      (c.config.kind = .totalize ∧ c.config.gateMode = .window ∧ (c.state = .starting ∨ c.state = .gating))
    (discards →
      ∃ t, exec (.watchExpiry n) s = .next t ∧ OnlyContext n s t ∧ t.quotient = s.quotient ∧
        Raised (contextSource n) 0b1000#4 s t ∧
        (t.ctx n).config = c.config ∧ (t.ctx n).seq = c.seq ∧ (t.ctx n).position = c.position ∧ (t.ctx n).record = c.record ∧
        (t.ctx n).slot = c.slot ∧ (t.ctx n).total = c.total ∧ (t.ctx n).latePending = c.latePending ∧
        (t.ctx n).live.flags = Flags.clear ∧ (c.config.kind ≠ .interval → (t.ctx n).live.testFulfilment = false) ∧
        (c.config.kind = .interval → (t.ctx n).live.batchOpen = false ∧ (t.ctx n).live.batchCount = 0 ∧
          (t.ctx n).live.batchSum = 0) ∧
        (c.config.runMode = .single → (t.ctx n).state = endState s n ∧ (t.ctx n).live.deadline = none) ∧
        (c.config.runMode = .continuous →
          (t.ctx n).state = .starting ∧ (t.ctx n).live.deadline = some (s.clock.timescale + watchLength c) ∧
          (c.config.kind = .interval → (t.ctx n).live.heldStop = none ∧ (t.ctx n).live.heldNotice = none ∧
            (t.ctx n).live.entryTick = s.clock.timescale ∧
            (c.state = .starting → (t.ctx n).live.floor = stampOfTick c.live.entryTick) ∧
            (c.state = .gating → (t.ctx n).live.floor = c.live.startStamp)))) ∧
    (c.config.kind = .totalize → c.config.gateMode = .manual → c.state = .gating →
      ∃ u t, exec (.watchExpiry n) s = .next t ∧ Raised (contextSource n) 0b1000#4 s u ∧ { u with attention := s.attention } = s ∧
        TotalGateClosed n ⟨s.clock.timescale, s.clock.elapsed⟩
          { c.live.flags with ref := c.live.flags.ref || decide (s.clock.monitor ≠ .locked), timeoutClose := true } u t ∧
        NextPosition c (t.ctx n))

/-- A context takes its oldest item from the channel and lets it pass: in FREE, IDLE or SETTLING any item (R28); in any state one of an edge at
or before its ARM, and a notice of a tick before the fulfilment tick (R12, R80; log 17, log 27); in ARMED any but the arm edge (R78,
R79); in a FREQUENCY run an item not of role A and sense A, and a notice in STARTING (R90, R93); in an INTERVAL run an item of role A that is a
notice or finds it in GATING, and one of a sense its role does not take (R112, R116); in a TIME or MANUAL gate any item (R129, R133); for a
window one not of role B, and in STARTING one of the opposite sense (R130, R131). An item that may not arrive yet, because its edge tick has not
been reached or an edge more than 8 ns earlier is still on its way to the context, is not taken (R29; log 8's reading); nor is one of the
deadline tick that would end an interval whose stop delay is at least the watch (R125; log 31's reading); any other may arrive. -/
def Obligations.UnawaitedItemsPass : Prop :=
  (∀ (s : State) (n : Fin 16) (c : Fin 8) (i : BusItem), Arriving s n c i →
    let d := s.ctx n
    let arms := d.config.armMode = .onEdge ∧ d.config.armChannel = c ∧ d.config.armSense.takes i.sense = true ∧
      ∃ x, i.stamped = some x ∧ laterStamp (stampOf i.tick x.fine) (stampOfTick d.live.armTick) = true
    let running := d.state = .starting ∨ d.state = .gating ∨ d.state = .closing
    let passes :=
      (d.config.kind = .frequency ∧
        (d.config.channelA ≠ c ∨ d.config.senseA.takes i.sense = false ∨ (d.state = .starting ∧ i.stamped = none))) ∨
      (d.config.kind = .interval ∧
        (d.config.channelA ≠ c ∨ d.config.senseA.takes i.sense = false ∨ d.state = .gating ∨ i.stamped = none) ∧
        (d.config.channelB ≠ c ∨ d.config.senseB.takes i.sense = false)) ∨
      (d.config.kind = .totalize ∧
        (d.config.gateMode ≠ .window ∨ d.config.channelB ≠ c ∨ (d.state = .starting ∧ d.config.senseB.takes i.sense = false)))
    (d.state = .free ∨ d.state = .idle ∨ d.state = .settling ∨ ¬AfterArm s n i ∨
      (i.stamped = none ∧ ¬NotBeforeFulfilment s n i) ∨
      (ListedOn s n c ∧ ((d.state = .armed ∧ ¬arms) ∨ (running ∧ passes)))) →
    (i.stamped ≠ none → exec (.stampedEdgeMessage n c) s = .next (handed s n c)) ∧
    (i.stamped = none → exec (.unstampedEdgeNotice n c) s = .next (handed s n c))) ∧
  (∀ (s : State) (n : Fin 16) (c : Fin 8) (i : BusItem), s.nextItem n c = some i →
    (s.clock.elapsed < i.edgeTick ∨ (∃ j ∈ s.bus, n ∈ j.recipients ∧ j.time + 8192 < i.time) ∨ WaitsForExpiry s n i →
      exec (.stampedEdgeMessage n c) s = .next s ∧ exec (.unstampedEdgeNotice n c) s = .next s) ∧
    (i.edgeTick ≤ s.clock.elapsed → (∀ j ∈ s.bus, n ∈ j.recipients → i.time ≤ j.time + 8192) → ¬WaitsForExpiry s n i →
      Arriving s n c i))

/-- The start edge of a FREQUENCY gate: a stamped edge of sense A later than the arm fulfilment, or any after the first watch expiry, opens
the gate with its stamp, count and generation, and the gate expires 250·G ticks after its edge tick (R90, R91). One not later than the
fulfilment, while that is tested, and one of a sense that sense A does not take are let pass. The edge tally starts at 0 for every sense, and
whether the fulfilment is still tested is a figure of the model's (log 17). -/
def Obligations.FrequencyGateOpens : Prop :=
  ∀ (s : State) (n : Fin 16) (c : Fin 8) (i : BusItem) (x : StampInfo), Arriving s n c i → i.channel = c → i.stamped = some x →
    ListedOn s n c → AfterArm s n i → (s.ctx n).config.kind = .frequency → (s.ctx n).state = .starting → (s.ctx n).config.channelA = c →
    let later := laterStamp (stampOf i.tick x.fine) (s.ctx n).live.fulfilStamp
    ((s.ctx n).config.senseA.takes i.sense = true → ((s.ctx n).live.testFulfilment = false ∨ later = true) →
      exec (.stampedEdgeMessage n c) s =
        .next ((handed s n c).setCtx n { s.ctx n with
          state := .gating
          live := { (s.ctx n).live with
            startStamp := stampOf i.tick x.fine
            startCount := x.count
            startGeneration := x.generation
            expiryTick := i.tick + gateLength (s.ctx n)
            flags := { Flags.clear with ref := x.unlocked }
            edgeTally := 0
            deadline := none } })) ∧
    ((s.ctx n).config.senseA.takes i.sense = false ∨ ((s.ctx n).live.testFulfilment = true ∧ later = false) →
      exec (.stampedEdgeMessage n c) s = .next (handed s n c))

/-- The first stamped edge of sense A with a tick later than the expiry tick closes a FREQUENCY gate, in GATING and in CLOSING: E, span, REF
and CAL_SWAP (R95, R98, R99), sequence and pattern (R100), hand-off (R101, R102), and in a CONTINUOUS run the next gate opens on it (R104).
One whose tick is not later leaves the gate open and is tallied for sense ANY; one of a sense that sense A does not take is let pass (R93).
The closing message does the same before and after the reaching of the expiry tick (R94). -/
def Obligations.FrequencyGateCloses : Prop :=
  ∀ (s : State) (n : Fin 16) (ch : Fin 8) (i : BusItem) (x : StampInfo), Arriving s n ch i → i.channel = ch → i.stamped = some x →
    ListedOn s n ch → AfterArm s n i → (s.ctx n).config.kind = .frequency → ((s.ctx n).state = .gating ∨ (s.ctx n).state = .closing) →
    (s.ctx n).config.channelA = ch →
    let c := s.ctx n
    let u := handed s n ch
    let stop := stampOf i.tick x.fine
    let e := if c.config.senseA = .any then c.live.edgeTally + 1 else x.count - c.live.startCount
    let gate : RawGate :=
      ⟨.frequency e (stop - c.live.startStamp) c.live.startStamp,
        { c.live.flags with ref := c.live.flags.ref || x.unlocked, calSwap := decide (x.generation ≠ c.live.startGeneration) },
        c.seq + 1⟩
    (c.config.senseA.takes i.sense = false → exec (.stampedEdgeMessage n ch) s = .next u) ∧
    (c.config.senseA.takes i.sense = true → laterTick i.tick c.live.expiryTick = false →
      exec (.stampedEdgeMessage n ch) s =
        .next (u.setCtx n { c with
          live := { c.live with edgeTally := if c.config.senseA = .any then c.live.edgeTally + 1 else c.live.edgeTally } })) ∧
    (c.config.senseA.takes i.sense = true → laterTick i.tick c.live.expiryTick = true →
      (∀ v, exec (.gateTimeExpiry n) s = .next v → exec (.stampedEdgeMessage n ch) v = exec (.stampedEdgeMessage n ch) s) ∧
      ∃ t, exec (.stampedEdgeMessage n ch) s = .next t ∧ OnlyContext n u t ∧ t.quotient.work = s.quotient.work ∧
        (t.ctx n).config = c.config ∧ (t.ctx n).record = c.record ∧ (t.ctx n).total = c.total ∧
        (t.ctx n).latePending = c.latePending ∧ (t.ctx n).seq = c.seq + 1 ∧ NextPosition c (t.ctx n) ∧
        (Passes c → HandedOn n gate u t) ∧
        (¬Passes c → (t.ctx n).slot = c.slot ∧ t.quotient = s.quotient ∧ t.attention = s.attention) ∧
        (t.ctx n).live.deadline = none ∧
        (c.config.runMode = .single →
          (Passes c → (t.ctx n).state = .settling) ∧ (¬Passes c → (t.ctx n).state = endState s n) ∧
          (t.ctx n).live.flags = Flags.clear ∧ (t.ctx n).live.startStamp = c.live.startStamp) ∧
        (c.config.runMode = .continuous →
          (t.ctx n).state = .gating ∧ (t.ctx n).live.startStamp = stop ∧ (t.ctx n).live.startCount = x.count ∧
          (t.ctx n).live.startGeneration = x.generation ∧ (t.ctx n).live.expiryTick = i.tick + gateLength c ∧
          (t.ctx n).live.flags = { Flags.clear with ref := x.unlocked } ∧ (t.ctx n).live.edgeTally = 0))

/-- A notice of a tick before the arm fulfilment tick is let pass (R80). That one of the tick of an ON_EDGE fulfilment, and one half a wrap or
more after the fulfilment, act as the kind's rules give, though R80 by its tick test gives them no effect, is the model's choice (log 27). Any
other on role A of an open FREQUENCY gate is tallied for sense ANY and sets BLIND where its tick is later than the expiry tick (R93, R96). One on
role B of an INTERVAL context in GATING, later than the stop limit, drops the interval: BLIND, and STARTING with the notice's tick as floor and
entry (R119; the entry tick is log 17's figure); one in STARTING outside period mode, later than the floor, is held (R112); any other is let pass
(R116). The deadline's W, in force at the taking, is log 32's choice. -/
def Obligations.NoticesMarkAndDrop : Prop :=
  (∀ (s : State) (n : Fin 16) (c : Fin 8) (i : BusItem), Arriving s n c i → i.channel = c → i.stamped = none →
    ListedOn s n c → AfterArm s n i →
    (s.ctx n).config.kind = .frequency → ((s.ctx n).state = .gating ∨ (s.ctx n).state = .closing) →
    (s.ctx n).config.channelA = c → (s.ctx n).config.senseA.takes i.sense = true →
    (NotBeforeFulfilment s n i → exec (.unstampedEdgeNotice n c) s =
      .next ((handed s n c).setCtx n { s.ctx n with
        live := { (s.ctx n).live with
          edgeTally := if (s.ctx n).config.senseA = .any then (s.ctx n).live.edgeTally + 1 else (s.ctx n).live.edgeTally
          flags := { (s.ctx n).live.flags with
            blind := (s.ctx n).live.flags.blind || laterTick i.tick (s.ctx n).live.expiryTick } } })) ∧
    (¬NotBeforeFulfilment s n i → exec (.unstampedEdgeNotice n c) s = .next (handed s n c))) ∧
  (∀ (s : State) (n : Fin 16) (ch : Fin 8) (i : BusItem), Arriving s n ch i → i.channel = ch → i.stamped = none →
    ListedOn s n ch → AfterArm s n i →
    (s.ctx n).config.kind = .interval → (s.ctx n).config.channelB = ch → (s.ctx n).config.senseB.takes i.sense = true →
    let c := s.ctx n
    let acts := NotBeforeFulfilment s n i
    let pastLimit := laterStamp (stampOfTick i.tick) (c.live.startStamp + BitVec.ofNat 60 (4096 * c.config.stopDelay.toNat))
    let pastFloor := laterStamp (stampOfTick i.tick) c.live.floor
    let period := c.config.channelA = c.config.channelB ∧ c.config.senseA = c.config.senseB
    (c.state = .gating → acts → pastLimit = true →
      exec (.unstampedEdgeNotice n ch) s =
        .next ((handed s n ch).setCtx n { c with
          state := .starting
          live := { c.live with
            heldStop := none
            heldNotice := none
            floor := stampOfTick i.tick
            entryTick := i.tick
            deadline := some (i.tick + watchLength c)
            flags := { c.live.flags with blind := true } } })) ∧
    (c.state = .starting → ¬period → acts → pastFloor = true →
      exec (.unstampedEdgeNotice n ch) s =
        .next ((handed s n ch).setCtx n { c with live := { c.live with heldNotice := some i.tick } })) ∧
    ((c.state = .gating ∧ (pastLimit = false ∨ ¬acts)) ∨ (c.state = .starting ∧ (pastFloor = false ∨ period ∨ ¬acts)) →
      exec (.unstampedEdgeNotice n ch) s = .next (handed s n ch)))

/-- The start edge of an interval: a stamped edge of sense A later than the floor is recorded, opens the batch if it is not open and starts the
interval's watch from its own tick (R112, R114, R120). What the held-B slot holds that is no stop for it is set aside and the context waits in
GATING (R115 case 3); a held notice later than the stop limit drops the interval at once (R115 case 1, R119; the entry tick is log 17's figure);
a held stop later than the start and at or after the stop limit forms the interval at once (R115 case 2), which enters the batch, or closes it
and is handed on (R110, R117, R118, R121). An edge not later than the floor is let pass. The deadline's W, in force at the taking, is log 32's
choice. -/
def Obligations.IntervalStarts : Prop :=
  ∀ (s : State) (n : Fin 16) (ch : Fin 8) (i : BusItem) (x : StampInfo), Arriving s n ch i → i.channel = ch → i.stamped = some x →
    ListedOn s n ch → AfterArm s n i → (s.ctx n).config.kind = .interval → (s.ctx n).state = .starting → (s.ctx n).config.channelA = ch →
    (s.ctx n).config.senseA.takes i.sense = true →
    let c := s.ctx n
    let start := stampOf i.tick x.fine
    let limit := start + BitVec.ofNat 60 (4096 * c.config.stopDelay.toNat)
    let period := c.config.channelA = c.config.channelB ∧ c.config.senseA = c.config.senseB
    let drops := fun k : Tick => ¬period ∧ c.live.heldNotice = some k ∧ laterStamp (stampOfTick k) limit = true
    let stops := fun h : HeldStop =>
      ¬period ∧ c.live.heldStop = some h ∧ laterStamp h.stamp start = true ∧ atLeastStamp h.stamp limit = true
    (laterStamp start c.live.floor = false → exec (.stampedEdgeMessage n ch) s = .next (handed s n ch)) ∧
    (laterStamp start c.live.floor = true → (∀ k, ¬drops k) → (∀ h, ¬stops h) →
      ∃ t, exec (.stampedEdgeMessage n ch) s = .next t ∧ OnlyContext n (handed s n ch) t ∧ t.quotient = s.quotient ∧
        t.attention = s.attention ∧
        t.ctx n = { c with state := .gating, live := (t.ctx n).live } ∧
        (t.ctx n).live.startStamp = start ∧ (t.ctx n).live.deadline = some (i.tick + watchLength c) ∧
        (t.ctx n).live.heldStop = none ∧ (t.ctx n).live.heldNotice = none ∧ (t.ctx n).live.batchOpen = true ∧
        (c.live.batchOpen = false →
          (t.ctx n).live.firstStart = start ∧ (t.ctx n).live.batchSize = c.config.averaging ∧ (t.ctx n).live.batchSum = 0 ∧
          (t.ctx n).live.batchCount = 0 ∧ (t.ctx n).live.batchMin = 0 ∧ (t.ctx n).live.batchMax = 0 ∧
          (t.ctx n).live.batchGenA = some x.generation ∧ (t.ctx n).live.batchGenB = none ∧
          (t.ctx n).live.flags = { Flags.clear with ref := x.unlocked }) ∧
        (c.live.batchOpen = true →
          (t.ctx n).live.firstStart = c.live.firstStart ∧ (t.ctx n).live.batchSize = c.live.batchSize ∧
          (t.ctx n).live.batchSum = c.live.batchSum ∧ (t.ctx n).live.batchCount = c.live.batchCount ∧
          (t.ctx n).live.batchMin = c.live.batchMin ∧ (t.ctx n).live.batchMax = c.live.batchMax ∧
          (t.ctx n).live.batchGenA = some (c.live.batchGenA.getD x.generation) ∧ (t.ctx n).live.batchGenB = c.live.batchGenB ∧
          (t.ctx n).live.flags =
            { c.live.flags with
              ref := c.live.flags.ref || x.unlocked
              calSwap := c.live.flags.calSwap || (c.live.batchGenA.any fun g => decide (g ≠ x.generation)) })) ∧
    (∀ k, laterStamp start c.live.floor = true → drops k → laterStamp start (stampOfTick k) = false →
      ∃ t, exec (.stampedEdgeMessage n ch) s = .next t ∧ OnlyContext n (handed s n ch) t ∧ t.quotient = s.quotient ∧
        t.attention = s.attention ∧ t.ctx n = { c with state := .starting, live := (t.ctx n).live } ∧
        (t.ctx n).live.floor = stampOfTick k ∧ (t.ctx n).live.entryTick = k ∧
        (t.ctx n).live.deadline = some (k + watchLength c) ∧ (t.ctx n).live.heldStop = none ∧ (t.ctx n).live.heldNotice = none ∧
        (t.ctx n).live.batchOpen = true ∧ (t.ctx n).live.flags.blind = true ∧
        (c.live.batchOpen = false →
          (t.ctx n).live.firstStart = start ∧ (t.ctx n).live.batchSize = c.config.averaging ∧ (t.ctx n).live.batchSum = 0 ∧
          (t.ctx n).live.batchCount = 0) ∧
        (c.live.batchOpen = true →
          (t.ctx n).live.firstStart = c.live.firstStart ∧ (t.ctx n).live.batchSize = c.live.batchSize ∧
          (t.ctx n).live.batchSum = c.live.batchSum ∧ (t.ctx n).live.batchCount = c.live.batchCount ∧
          (t.ctx n).live.batchMin = c.live.batchMin ∧ (t.ctx n).live.batchMax = c.live.batchMax)) ∧
    (∀ h, laterStamp start c.live.floor = true → (∀ k, ¬drops k) → stops h →
      let u := handed s n ch
      let length := h.stamp - start
      let opened := c.live.batchOpen = true
      let size := if opened then c.live.batchSize else c.config.averaging
      let count := if opened then c.live.batchCount else 0
      let sum := (if opened then c.live.batchSum else 0) + BitVec.ofNat 80 length.toNat
      let first := if opened then c.live.firstStart else start
      let least := if count = 0 ∨ length < c.live.batchMin then length else c.live.batchMin
      let most := if count = 0 ∨ c.live.batchMax < length then length else c.live.batchMax
      let before := if opened then c.live.flags else Flags.clear
      let seenA := if opened then c.live.batchGenA else none
      let seenB :=
        if c.config.channelA = c.config.channelB then some (seenA.getD x.generation) else if opened then c.live.batchGenB else none
      let flags : Flags := { before with
        ref := before.ref || x.unlocked || h.unlocked
        calSwap := before.calSwap || (seenA.any fun g => decide (g ≠ x.generation)) || (seenB.any fun g => decide (g ≠ h.generation)) }
      let gate : RawGate := ⟨.interval sum (count + 1) least most first, flags, c.seq + 1⟩
      ∃ t, exec (.stampedEdgeMessage n ch) s = .next t ∧ OnlyContext n u t ∧ t.quotient.work = s.quotient.work ∧
        (t.ctx n).config = c.config ∧ (t.ctx n).record = c.record ∧ (t.ctx n).total = c.total ∧ (t.ctx n).latePending = c.latePending ∧
        (count + 1 ≠ size →
          (t.ctx n).seq = c.seq ∧ (t.ctx n).position = c.position ∧ (t.ctx n).slot = c.slot ∧ t.quotient = s.quotient ∧
          t.attention = s.attention ∧ (t.ctx n).live.batchOpen = true ∧ (t.ctx n).live.batchSize = size ∧
          (t.ctx n).live.batchSum = sum ∧ (t.ctx n).live.batchCount = count + 1 ∧ (t.ctx n).live.batchMin = least ∧
          (t.ctx n).live.batchMax = most ∧ (t.ctx n).live.firstStart = first ∧ (t.ctx n).live.flags = flags) ∧
        (count + 1 = size →
          (t.ctx n).seq = c.seq + 1 ∧ NextPosition c (t.ctx n) ∧ (t.ctx n).live.batchOpen = false ∧
          (t.ctx n).live.flags = Flags.clear ∧ (Passes c → HandedOn n gate u t) ∧
          (¬Passes c → (t.ctx n).slot = c.slot ∧ t.quotient = s.quotient ∧ t.attention = s.attention)) ∧
        (count + 1 = size → c.config.runMode = .single →
          (Passes c → (t.ctx n).state = .settling) ∧ (¬Passes c → (t.ctx n).state = endState s n) ∧ (t.ctx n).live.deadline = none) ∧
        (count + 1 ≠ size ∨ c.config.runMode = .continuous →
          (t.ctx n).state = .starting ∧ (t.ctx n).live.floor = h.stamp ∧ (t.ctx n).live.entryTick = tickOfStamp h.stamp ∧
          (t.ctx n).live.deadline = some (tickOfStamp h.stamp + watchLength c) ∧ (t.ctx n).live.heldStop = none ∧
          (t.ctx n).live.heldNotice = none))

/-- The stop edge of an interval: a stamped edge of sense B later than the start and at or after the stop limit adds the interval to the batch
(R116, R117); an unfinished batch carries on (R118); at the batch size it closes and is handed on (R110, R121). A stamped edge of sense B that is
not later than the start or lies before the stop limit is let pass (R116); in STARTING one of another channel than A's, or of a sense that sense
A does not take on a channel shared with A, is held where it is later than the floor, and let pass where it is not (R112, R113). The wait after
the stop is entered at the stop's tick (R111; the entry tick is log 17's figure). The deadline's W, in force at the taking, is log 32's. -/
def Obligations.IntervalStops : Prop :=
  (∀ (s : State) (n : Fin 16) (ch : Fin 8) (i : BusItem) (x : StampInfo), Arriving s n ch i → i.channel = ch → i.stamped = some x →
    ListedOn s n ch → AfterArm s n i → (s.ctx n).config.kind = .interval → (s.ctx n).state = .gating → (s.ctx n).config.channelB = ch →
    (s.ctx n).config.senseB.takes i.sense = true → laterStamp (stampOf i.tick x.fine) (s.ctx n).live.startStamp = true →
    atLeastStamp (stampOf i.tick x.fine)
      ((s.ctx n).live.startStamp + BitVec.ofNat 60 (4096 * (s.ctx n).config.stopDelay.toNat)) = true →
    (s.ctx n).live.batchOpen = true →
    let c := s.ctx n
    let u := handed s n ch
    let stop := stampOf i.tick x.fine
    let length := stop - c.live.startStamp
    let sum := c.live.batchSum + BitVec.ofNat 80 length.toNat
    let least := if c.live.batchCount = 0 ∨ length < c.live.batchMin then length else c.live.batchMin
    let most := if c.live.batchCount = 0 ∨ c.live.batchMax < length then length else c.live.batchMax
    let period := c.config.channelA = c.config.channelB ∧ c.config.senseA = c.config.senseB
    let seen := if c.config.channelA = c.config.channelB then c.live.batchGenA else c.live.batchGenB
    let flags : Flags := { c.live.flags with
      ref := c.live.flags.ref || x.unlocked, calSwap := c.live.flags.calSwap || (seen.any fun g => decide (g ≠ x.generation)) }
    let gate : RawGate := ⟨.interval sum (c.live.batchCount + 1) least most c.live.firstStart, flags, c.seq + 1⟩
    ∃ t, exec (.stampedEdgeMessage n ch) s = .next t ∧ OnlyContext n u t ∧ t.quotient.work = s.quotient.work ∧
      (t.ctx n).config = c.config ∧ (t.ctx n).record = c.record ∧ (t.ctx n).total = c.total ∧
      (t.ctx n).latePending = c.latePending ∧
      (c.live.batchCount + 1 ≠ c.live.batchSize →
        (t.ctx n).seq = c.seq ∧ (t.ctx n).position = c.position ∧ (t.ctx n).slot = c.slot ∧ t.quotient = s.quotient ∧
        t.attention = s.attention ∧ (t.ctx n).live.batchOpen = true ∧ (t.ctx n).live.batchSum = sum ∧
        (t.ctx n).live.batchCount = c.live.batchCount + 1 ∧ (t.ctx n).live.batchMin = least ∧ (t.ctx n).live.batchMax = most ∧
        (t.ctx n).live.firstStart = c.live.firstStart ∧ (t.ctx n).live.flags = flags) ∧
      (c.live.batchCount + 1 = c.live.batchSize →
        (t.ctx n).seq = c.seq + 1 ∧ NextPosition c (t.ctx n) ∧ (Passes c → HandedOn n gate u t) ∧
        (¬Passes c → (t.ctx n).slot = c.slot ∧ t.quotient = s.quotient ∧ t.attention = s.attention)) ∧
      (c.live.batchCount + 1 = c.live.batchSize → c.config.runMode = .single →
        (Passes c → (t.ctx n).state = .settling) ∧ (¬Passes c → (t.ctx n).state = endState s n) ∧
        (t.ctx n).live.deadline = none ∧ (t.ctx n).live.batchOpen = false ∧ (t.ctx n).live.flags = Flags.clear) ∧
      (c.live.batchCount + 1 ≠ c.live.batchSize ∨ c.config.runMode = .continuous →
        (t.ctx n).live.deadline = some (i.tick + watchLength c) ∧
        (¬period →
          (t.ctx n).state = .starting ∧ (t.ctx n).live.floor = stop ∧ (t.ctx n).live.entryTick = i.tick ∧
          (t.ctx n).live.heldStop = none ∧ (t.ctx n).live.heldNotice = none ∧
          (c.live.batchCount + 1 = c.live.batchSize → (t.ctx n).live.batchOpen = false)) ∧
        (period →
          (t.ctx n).state = .gating ∧ (t.ctx n).live.startStamp = stop ∧
          (c.live.batchCount + 1 = c.live.batchSize →
            (t.ctx n).live.batchOpen = true ∧ (t.ctx n).live.firstStart = stop ∧ (t.ctx n).live.batchCount = 0)))) ∧
  (∀ (s : State) (n : Fin 16) (ch : Fin 8) (i : BusItem) (x : StampInfo), Arriving s n ch i → i.channel = ch → i.stamped = some x →
    ListedOn s n ch → AfterArm s n i → (s.ctx n).config.kind = .interval → (s.ctx n).config.channelB = ch →
    (s.ctx n).config.senseB.takes i.sense = true →
    let c := s.ctx n
    let stop := stampOf i.tick x.fine
    (c.state = .gating →
      (laterStamp stop c.live.startStamp = false ∨
        atLeastStamp stop (c.live.startStamp + BitVec.ofNat 60 (4096 * c.config.stopDelay.toNat)) = false) →
      exec (.stampedEdgeMessage n ch) s = .next (handed s n ch)) ∧
    (c.state = .starting → (c.config.channelA ≠ ch ∨ c.config.senseA.takes i.sense = false) → laterStamp stop c.live.floor = true →
      exec (.stampedEdgeMessage n ch) s =
        .next ((handed s n ch).setCtx n { c with live := { c.live with heldStop := some ⟨stop, x.generation, x.unlocked⟩ } })) ∧
    (c.state = .starting → (c.config.channelA ≠ ch ∨ c.config.senseA.takes i.sense = false) → laterStamp stop c.live.floor = false →
      exec (.stampedEdgeMessage n ch) s = .next (handed s n ch)))

/-- A start and a stop that cross on their way give the same part in either order of arrival: the stop that comes first is held and used at the
start (R112, R113, R115 case 2). The interval from the one to the other enters the batch, or closes it and is handed on (R117, R118, R121). The
entry tick is log 17's figure. -/
def Obligations.CrossingItemsGiveOneInterval : Prop :=
  ∀ (s : State) (n : Fin 16) (a b : Message), (s.ctx n).config.kind = .interval → (s.ctx n).state = .starting →
    (s.ctx n).config.channelA ≠ (s.ctx n).config.channelB → (s.ctx n).live.heldStop = none → (s.ctx n).live.heldNotice = none →
    (s.ctx n).config.senseA.takes a.sense = true → (s.ctx n).config.senseB.takes b.sense = true →
    laterStamp a.stamp (s.ctx n).live.floor = true → laterStamp b.stamp (s.ctx n).live.floor = true →
    laterStamp b.stamp a.stamp = true →
    atLeastStamp b.stamp (a.stamp + BitVec.ofNat 60 (4096 * (s.ctx n).config.stopDelay.toNat)) = true →
    let c := s.ctx n
    let t := (s.takeMessage n b .b).takeMessage n a .a
    let length := b.stamp - a.stamp
    let opened := c.live.batchOpen = true
    let size := if opened then c.live.batchSize else c.config.averaging
    let count := if opened then c.live.batchCount else 0
    let sum := (if opened then c.live.batchSum else 0) + BitVec.ofNat 80 length.toNat
    let first := if opened then c.live.firstStart else a.stamp
    let least := if count = 0 ∨ length < c.live.batchMin then length else c.live.batchMin
    let most := if count = 0 ∨ c.live.batchMax < length then length else c.live.batchMax
    (s.takeMessage n a .a).takeMessage n b .b = t ∧
    (count + 1 ≠ size →
      (t.ctx n).state = .starting ∧ (t.ctx n).live.floor = b.stamp ∧ (t.ctx n).live.entryTick = tickOfStamp b.stamp ∧
      (t.ctx n).live.batchOpen = true ∧
      (t.ctx n).live.batchCount = count + 1 ∧ (t.ctx n).live.batchSum = sum ∧ (t.ctx n).live.batchMin = least ∧
      (t.ctx n).live.batchMax = most ∧ (t.ctx n).live.firstStart = first ∧ (t.ctx n).live.batchSize = size ∧
      (t.ctx n).seq = c.seq ∧ t.quotient = s.quotient) ∧
    (count + 1 = size →
      (t.ctx n).seq = c.seq + 1 ∧ NextPosition c (t.ctx n) ∧ (t.ctx n).live.batchOpen = false ∧
      (Passes c → ∃ flags, HandedOn n ⟨.interval sum (count + 1) least most first, flags, c.seq + 1⟩ s t) ∧
      (¬Passes c → (t.ctx n).slot = c.slot ∧ t.quotient = s.quotient))

/-- A window opens at the tick of an edge of sense B, stamped or not, and closes at that of an edge of the opposite sense; channel A is sampled
at both ticks, BLIND marks a notice and REF an unlocked boundary (R130, R131, R135, R136). A notice of a tick before the
arm fulfilment tick is let pass (R80), and until the first window opens one of that tick (R130). That one of the tick of an ON_EDGE fulfilment
closes, or after a first window opens, a window as R130 and R131 give, and that one half a wrap or more after the fulfilment acts, though R80 by
its tick test gives them no effect, is the model's choice (log 27). Whether the fulfilment is still tested is a figure of the
model's (log 17). The deadline's W, in force at the taking, is log 32's choice. -/
def Obligations.WindowOpensAndCloses : Prop :=
  ∀ (s : State) (n : Fin 16) (ch : Fin 8) (i : BusItem) (command : Instr) (ref blind later : Bool), Arriving s n ch i →
    i.channel = ch → ListedOn s n ch → AfterArm s n i → (s.ctx n).config.kind = .totalize → (s.ctx n).config.gateMode = .window →
    (s.ctx n).config.channelB = ch →
    ((∃ x, i.stamped = some x ∧ command = .stampedEdgeMessage n ch ∧ ref = x.unlocked ∧ blind = false ∧
        later = laterStamp (stampOf i.tick x.fine) (s.ctx n).live.fulfilStamp) ∨
      (i.stamped = none ∧ command = .unstampedEdgeNotice n ch ∧ ref = decide (s.clock.monitor ≠ .locked) ∧ blind = true ∧
        later = laterTick i.tick (s.ctx n).live.fulfilTick)) →
    let c := s.ctx n
    let acts := i.stamped = none → NotBeforeFulfilment s n i
    (¬acts → exec command s = .next (handed s n ch)) ∧
    (acts → c.state = .starting → c.config.senseB.takes i.sense = true → (c.live.testFulfilment = false ∨ later = true) →
      exec command s =
        .next ((handed s n ch).setCtx n { c with
          state := .gating
          live := { c.live with
            openTick := i.tick
            openCount := (s.channel c.config.channelA).sample i.edgeTick c.config.senseA
            flags := { Flags.clear with ref := ref, blind := blind }
            deadline := some (i.tick + watchLength c)
            testFulfilment := false } })) ∧
    (c.state = .starting → c.config.senseB.takes i.sense = true → c.live.testFulfilment = true → later = false →
      exec command s = .next (handed s n ch)) ∧
    (acts → c.state = .gating → ((c.config.senseB = .rise ∧ i.sense = .fall) ∨ (c.config.senseB = .fall ∧ i.sense = .rise)) →
      ∃ t, exec command s = .next t ∧
        TotalGateClosed n ⟨i.tick, i.edgeTick⟩
          { c.live.flags with ref := c.live.flags.ref || ref, blind := c.live.flags.blind || blind } (handed s n ch) t ∧
        NextPosition c (t.ctx n)) ∧
    (c.state = .gating → c.config.senseB ≠ .any → c.config.senseB.takes i.sense = true → exec command s = .next (handed s n ch))

/-- Every FREQUENCY gate that closes and is passed leaves a span greater than 4096·250·G in the slot, for the gate time G in force when it
opened, E of its own start and closing edges, as the difference of their counts or as the tally for sense ANY (R99), and the start stamp (R89):
the closing stamp's tick is later than the expiry tick, and that lies 250·G ticks after the start stamp's tick, which every step keeps (R91,
R94). -/
def Obligations.FrequencySpanExceedsGateTime : Prop :=
  (∀ (start stop : Stamp) (c : Context), 1 ≤ c.config.gateTime.toNat → c.config.gateTime.toNat ≤ 100000000000 →
    laterTick (tickOfStamp stop) (tickOfStamp start + gateLength c) = true →
    4096 * 250 * c.config.gateTime.toNat < (stop - start).toNat) ∧
  (∀ (s : State) (n : Fin 16) (ch : Fin 8) (i : BusItem) (x : StampInfo) (g : Nat), Arriving s n ch i → i.channel = ch →
    i.stamped = some x → ListedOn s n ch → AfterArm s n i → (s.ctx n).config.kind = .frequency →
    ((s.ctx n).state = .gating ∨ (s.ctx n).state = .closing) → (s.ctx n).config.channelA = ch →
    (s.ctx n).config.senseA.takes i.sense = true → laterTick i.tick (s.ctx n).live.expiryTick = true → Passes (s.ctx n) →
    1 ≤ g → g ≤ 100000000000 →
    (s.ctx n).live.expiryTick = tickOfStamp (s.ctx n).live.startStamp + BitVec.ofNat 48 (250 * g) →
    ∃ (t : State) (gate : RawGate) (e : EdgeCount) (span : Stamp), exec (.stampedEdgeMessage n ch) s = .next t ∧
      (t.ctx n).slot = some gate ∧ gate.figures = .frequency e span (s.ctx n).live.startStamp ∧
      e = (if (s.ctx n).config.senseA = .any then (s.ctx n).live.edgeTally + 1 else x.count - (s.ctx n).live.startCount) ∧
      span = stampOf i.tick x.fine - (s.ctx n).live.startStamp ∧ 4096 * 250 * g < span.toNat) ∧
  (∀ s t : State, FrequencyGatesLawful s → step s = .next t → FrequencyGatesLawful t)

/-! ## The quotient unit and the attention controller -/

/-- The idle unit takes the head of the queue with its slot (R140); at a completion void work is discarded without a trace and other work is
posted under the sequence number of its gate, after which a SETTLING context with nothing left goes to IDLE (R66, R141, R149). The taking is a step of
its own (log 25). -/
def Obligations.QuotientUnitTakesAndPosts : Prop :=
  (∀ (s : State) (n : Fin 16) (rest : List (Fin 16)) (g : RawGate), s.quotient.work = none → s.quotient.queue = n :: rest →
    (s.ctx n).slot = some g →
    exec .quotientTake s =
      .next { s.setCtx n { s.ctx n with slot := none } with quotient := ⟨rest, some ⟨n, g, false⟩⟩ }) ∧
  (∀ (s : State) (w : Work), s.quotient.work = some w → w.void = true →
    exec .quotientComplete s = .next { s with quotient := { s.quotient with work := none } }) ∧
  (∀ (s : State) (w : Work), s.quotient.work = some w → w.void = false →
    ∃ (t : State) (figures : Figures) (primary : Nat) (sat : Bool), exec .quotientComplete s = .next t ∧
      OnlyContext w.context s t ∧
      t.quotient = { s.quotient with work := none } ∧
      Posted w.context figures w.gate.seq { w.gate.flags with sat := sat } primary s t ∧
      (∀ e span start, w.gate.figures = .frequency e span start →
        figures = .frequency e span (frequencyOf e span) start ∧ primary = (frequencyOf e span).toNat ∧
        (sat = true ↔ (2 ^ 64 - 1) * span.toNat < e.toNat * 1024000000000000000000)) ∧
      (∀ sum count lo hi first, w.gate.figures = .interval sum count lo hi first →
        figures = .interval count (meanOf sum count) lo hi first ∧ primary = (meanOf sum count).toNat ∧ sat = false) ∧
      (t.ctx w.context).config = (s.ctx w.context).config ∧ (t.ctx w.context).live = (s.ctx w.context).live ∧
      (t.ctx w.context).slot = (s.ctx w.context).slot ∧ (t.ctx w.context).total = (s.ctx w.context).total ∧
      (t.ctx w.context).seq = (s.ctx w.context).seq ∧ (t.ctx w.context).position = (s.ctx w.context).position ∧
      ((s.ctx w.context).state = .settling → (s.ctx w.context).slot = none → (t.ctx w.context).state = .idle) ∧
      (¬((s.ctx w.context).state = .settling ∧ (s.ctx w.context).slot = none) →
        (t.ctx w.context).state = (s.ctx w.context).state))

/-- The frequency is E·1,024,000,000,000,000,000,000/span rounded half up, or 2^64 − 1 where the quotient is greater (R142); the mean is
sum/count rounded half up, and lies between the shortest and the longest interval (R143). -/
def Obligations.QuotientsRoundHalfUp : Prop :=
  (∀ (e : EdgeCount) (span : Stamp), span ≠ 0 →
    ((2 ^ 64 - 1) * span.toNat < e.toNat * 1024000000000000000000 → (frequencyOf e span).toNat = 2 ^ 64 - 1) ∧
    (e.toNat * 1024000000000000000000 ≤ (2 ^ 64 - 1) * span.toNat →
      2 * span.toNat * (frequencyOf e span).toNat ≤ 2 * (e.toNat * 1024000000000000000000) + span.toNat ∧
      2 * (e.toNat * 1024000000000000000000) + span.toNat < 2 * span.toNat * ((frequencyOf e span).toNat + 1))) ∧
  (∀ (sum : BitVec 80) (count : BitVec 16) (lo hi : Stamp), count ≠ 0 → count.toNat * lo.toNat ≤ sum.toNat →
    sum.toNat ≤ count.toNat * hi.toNat →
    2 * count.toNat * (meanOf sum count).toNat ≤ 2 * sum.toNat + count.toNat ∧
    2 * sum.toNat + count.toNat < 2 * count.toNat * ((meanOf sum count).toNat + 1) ∧
    lo.toNat ≤ (meanOf sum count).toNat ∧ (meanOf sum count).toNat ≤ hi.toNat)

/-- SET PRIORITY (R158), SET THRESHOLD (R159) and SET DRIFT LIMIT (R50) replace their settings at once, clamped, and return them; a cause
whose place is disabled leaves the set, and places that name no cause are held as disabled. -/
def Obligations.SettingsClampedAndReturned : Prop :=
  (∀ (s : State) (k p m : Byte) (id : Fin 20), InFrame s → k.toNat = id.val →
    ∃ (t : State) (x : Source),
      exec (.setPriority k p m) s =
        .next (answered 3 t (if 15 < p.toNat then .clamped else .ok) [x.priority.setWidth 8, x.mask.setWidth 8] .none) ∧
      { t with attention := s.attention } = s ∧ t.source id = x ∧ t.attention.threshold = s.attention.threshold ∧
      (∀ j, j ≠ id → t.source j = s.source j) ∧
      x.priority.toNat = min 15 p.toNat ∧
      (∀ j : Fin 4, x.mask.getLsbD j.val = true ↔ m.getLsbD j.val = true ∧
        (id.val < 16 ∨ (id.val = 16 ∧ j.val = 0) ∨ (id.val = 17 ∧ j.val ≤ 2) ∨ (18 ≤ id.val ∧ j.val ≤ 1))) ∧
      x.events = (s.source id).events &&& x.mask) ∧
  (∀ (s : State) (k : Byte), InFrame s →
    ∃ x : BitVec 4,
      exec (.setThreshold k) s =
        .next (answered 1 { s with attention := { s.attention with threshold := x } }
          (if k = 0 ∨ 15 < k.toNat then .clamped else .ok) [x.setWidth 8] .none) ∧
      x.toNat = max 1 (min 15 k.toNat)) ∧
  (∀ (s : State) (l : BitVec 16), InFrame s →
    ∃ x : BitVec 12,
      exec (.setDriftLimit l) s =
        .next (answered 2 { s with engine := { s.engine with driftLimit := x } } (if 4095 < l.toNat then .clamped else .ok)
          (bytesOf 2 x.toNat) .none) ∧
      x.toNat = min 4095 l.toNat)

/-- CLAIM chooses among the sources that signal (R156) the one of highest priority and, at equal priority, of lowest ID; it returns that
source's ID, priority and outstanding set and clears its event causes; with none signalling it returns 255, 0 and the empty set and changes
nothing (R160). An outstanding set is the event causes raised and, on a context's source, the level cause RESULT exactly while the fresh
indication of its record and the place of RESULT in the mask are set (R86, R155). -/
def Obligations.ClaimTakesMostUrgentSource : Prop :=
  (∀ (s : State) (id : Fin 20) (j : Nat), (s.outstanding id).getLsbD j = true ↔
    (s.source id).events.getLsbD j = true ∨
      (j = 0 ∧ (s.source id).mask.getLsbD 0 = true ∧ ∃ n : Fin 16, id = contextSource n ∧ (s.ctx n).record.fresh = true)) ∧
  (∀ (s : State) (n : Fin 16), AttentionLawful s →
    ((s.outstanding (contextSource n)).getLsbD 0 = true ↔
      (s.ctx n).record.fresh = true ∧ (s.source (contextSource n)).mask.getLsbD 0 = true)) ∧
  ∀ s : State, InFrame s →
    let signals := fun id : Fin 20 => s.outstanding id ≠ 0 ∧ s.attention.threshold ≤ (s.source id).priority
    ((∀ id, ¬signals id) → exec .claim s = .next (takenWith 0 s [255, 0, 0])) ∧
    ((∃ id, signals id) →
      ∃ id t, signals id ∧
        (∀ k, signals k → (s.source k).priority ≤ (s.source id).priority) ∧
        (∀ k, signals k → (s.source k).priority = (s.source id).priority → id ≤ k) ∧
        exec .claim s =
          .next (takenWith 0 t [BitVec.ofNat 8 id.val, (s.source id).priority.setWidth 8, (s.outstanding id).setWidth 8]) ∧
        { t with attention := s.attention } = s ∧ t.attention.threshold = s.attention.threshold ∧
        t.source id = { s.source id with events := 0 } ∧ ∀ k, k ≠ id → t.source k = s.source k)

/-! ## Whole-machine statements -/

/-- The bytes in of a well-formed host command decode to it, whatever bytes follow (R164); cut short by a byte or more they execute nothing
(R166). -/
def Obligations.FramesDecodeToTheirCommands : Prop :=
  ∀ (c : Instr) (bytes more : List Byte), c.wellFormed = true → encodeFrame c = some bytes →
    decodeFrame (bytes ++ more) = some c ∧ ∀ k, k < bytes.length → decodeFrame (bytes.take k) = none

/-- Every step keeps the quotient queue and the closed-gate slots in agreement (R139), and a context IDLE or FREE exactly with no gate in its
slot or in the unit, SETTLING only with one (R65, R66). -/
def Obligations.QueueAndSettlingKept : Prop :=
  ∀ s t : State, QueueMatchesSlots s → PendingMatchesStates s → step s = .next t → QueueMatchesSlots t ∧ PendingMatchesStates t

/-- Every step keeps overrun set only while fresh is (R149), the threshold at least 1, masks within their causes, outstanding event causes
enabled and RESULT of a context's source no event cause (R155, R156, R158). -/
def Obligations.RecordsAndAttentionKept : Prop :=
  ∀ s t : State, OverrunOnlyWhileFresh s → AttentionLawful s → step s = .next t → OverrunOnlyWhileFresh t ∧ AttentionLawful t

/-- Every step keeps every calibration table rising with the raw code (R35). -/
def Obligations.TablesKeepRising : Prop := ∀ s t : State, TablesRise s → step s = .next t → TablesRise t

/-- Every step keeps the listener lists those of the configurations (R68, R69), the calibration queue at one entry per channel (R38), INIT
over the reference search with nothing active (R57, R58), and every active context on channels in service (R19). -/
def Obligations.ServiceLawKept : Prop :=
  ∀ s t : State, ListsMatchConfigurations s → OneEntryPerChannel s → InitLawful s → ActiveInService s → step s = .next t →
    ListsMatchConfigurations t ∧ OneEntryPerChannel t ∧ InitLawful t ∧ ActiveInService t

/-- All these laws hold right after reset. -/
def Obligations.LawsHoldAtReset : Prop :=
  QueueMatchesSlots State.reset ∧ PendingMatchesStates State.reset ∧ OverrunOnlyWhileFresh State.reset ∧ AttentionLawful State.reset ∧
    TablesRise State.reset ∧ ListsMatchConfigurations State.reset ∧ OneEntryPerChannel State.reset ∧ InitLawful State.reset ∧
    ActiveInService State.reset ∧ FrequencyGatesLawful State.reset
end

