-- ==== Sys2Proof/Laws/State.lean ====
section
/-! SUPPORT. One lemma per field per update of the state, so that no proof unfolds a record update. Each is true by computation. -/

namespace Sys2Proof.Machine

variable (s : State)

/-! ### setCtx: the record of one context -/

@[simp] theorem State.setCtx_rstnLow (n : Fin 16) (c : Context) : (s.setCtx n c).rstnLow = s.rstnLow := rfl
@[simp] theorem State.setCtx_clock (n : Fin 16) (c : Context) : (s.setCtx n c).clock = s.clock := rfl
@[simp] theorem State.setCtx_channels (n : Fin 16) (c : Context) : (s.setCtx n c).channels = s.channels := rfl
@[simp] theorem State.setCtx_bus (n : Fin 16) (c : Context) : (s.setCtx n c).bus = s.bus := rfl
@[simp] theorem State.setCtx_engine (n : Fin 16) (c : Context) : (s.setCtx n c).engine = s.engine := rfl
@[simp] theorem State.setCtx_contexts (n : Fin 16) (c : Context) : (s.setCtx n c).contexts = s.contexts.set n c := rfl
@[simp] theorem State.setCtx_listeners (n : Fin 16) (c : Context) : (s.setCtx n c).listeners = s.listeners := rfl
@[simp] theorem State.setCtx_lossNotices (n : Fin 16) (c : Context) : (s.setCtx n c).lossNotices = s.lossNotices := rfl
@[simp] theorem State.setCtx_quotient (n : Fin 16) (c : Context) : (s.setCtx n c).quotient = s.quotient := rfl
@[simp] theorem State.setCtx_attention (n : Fin 16) (c : Context) : (s.setCtx n c).attention = s.attention := rfl
@[simp] theorem State.setCtx_port (n : Fin 16) (c : Context) : (s.setCtx n c).port = s.port := rfl
@[simp] theorem State.setCtx_pending (n : Fin 16) (c : Context) : (s.setCtx n c).pending = s.pending := rfl
@[simp] theorem State.setCtx_channel (n : Fin 16) (c : Context) (k : Fin 8) : (s.setCtx n c).channel k = s.channel k := rfl
@[simp] theorem State.setCtx_listenersOf (n : Fin 16) (c : Context) (k : Fin 8) : (s.setCtx n c).listenersOf k = s.listenersOf k := rfl
@[simp] theorem State.setCtx_source (n : Fin 16) (c : Context) (k : Fin 20) : (s.setCtx n c).source k = s.source k := rfl

/-! ### modCtx: a change to one context -/

@[simp] theorem State.modCtx_rstnLow (n : Fin 16) (f : Context → Context) : (s.modCtx n f).rstnLow = s.rstnLow := rfl
@[simp] theorem State.modCtx_clock (n : Fin 16) (f : Context → Context) : (s.modCtx n f).clock = s.clock := rfl
@[simp] theorem State.modCtx_channels (n : Fin 16) (f : Context → Context) : (s.modCtx n f).channels = s.channels := rfl
@[simp] theorem State.modCtx_bus (n : Fin 16) (f : Context → Context) : (s.modCtx n f).bus = s.bus := rfl
@[simp] theorem State.modCtx_engine (n : Fin 16) (f : Context → Context) : (s.modCtx n f).engine = s.engine := rfl
@[simp] theorem State.modCtx_contexts (n : Fin 16) (f : Context → Context) : (s.modCtx n f).contexts = s.contexts.set n (f (s.ctx n)) := rfl
@[simp] theorem State.modCtx_listeners (n : Fin 16) (f : Context → Context) : (s.modCtx n f).listeners = s.listeners := rfl
@[simp] theorem State.modCtx_lossNotices (n : Fin 16) (f : Context → Context) : (s.modCtx n f).lossNotices = s.lossNotices := rfl
@[simp] theorem State.modCtx_quotient (n : Fin 16) (f : Context → Context) : (s.modCtx n f).quotient = s.quotient := rfl
@[simp] theorem State.modCtx_attention (n : Fin 16) (f : Context → Context) : (s.modCtx n f).attention = s.attention := rfl
@[simp] theorem State.modCtx_port (n : Fin 16) (f : Context → Context) : (s.modCtx n f).port = s.port := rfl
@[simp] theorem State.modCtx_pending (n : Fin 16) (f : Context → Context) : (s.modCtx n f).pending = s.pending := rfl
@[simp] theorem State.modCtx_channel (n : Fin 16) (f : Context → Context) (k : Fin 8) : (s.modCtx n f).channel k = s.channel k := rfl
@[simp] theorem State.modCtx_listenersOf (n : Fin 16) (f : Context → Context) (k : Fin 8) : (s.modCtx n f).listenersOf k = s.listenersOf k := rfl
@[simp] theorem State.modCtx_source (n : Fin 16) (f : Context → Context) (k : Fin 20) : (s.modCtx n f).source k = s.source k := rfl

/-! ### modLive: a change to the live figures of one context -/

@[simp] theorem State.modLive_rstnLow (n : Fin 16) (f : Live → Live) : (s.modLive n f).rstnLow = s.rstnLow := rfl
@[simp] theorem State.modLive_clock (n : Fin 16) (f : Live → Live) : (s.modLive n f).clock = s.clock := rfl
@[simp] theorem State.modLive_channels (n : Fin 16) (f : Live → Live) : (s.modLive n f).channels = s.channels := rfl
@[simp] theorem State.modLive_bus (n : Fin 16) (f : Live → Live) : (s.modLive n f).bus = s.bus := rfl
@[simp] theorem State.modLive_engine (n : Fin 16) (f : Live → Live) : (s.modLive n f).engine = s.engine := rfl
@[simp] theorem State.modLive_listeners (n : Fin 16) (f : Live → Live) : (s.modLive n f).listeners = s.listeners := rfl
@[simp] theorem State.modLive_lossNotices (n : Fin 16) (f : Live → Live) : (s.modLive n f).lossNotices = s.lossNotices := rfl
@[simp] theorem State.modLive_quotient (n : Fin 16) (f : Live → Live) : (s.modLive n f).quotient = s.quotient := rfl
@[simp] theorem State.modLive_attention (n : Fin 16) (f : Live → Live) : (s.modLive n f).attention = s.attention := rfl
@[simp] theorem State.modLive_port (n : Fin 16) (f : Live → Live) : (s.modLive n f).port = s.port := rfl
@[simp] theorem State.modLive_pending (n : Fin 16) (f : Live → Live) : (s.modLive n f).pending = s.pending := rfl
@[simp] theorem State.modLive_channel (n : Fin 16) (f : Live → Live) (k : Fin 8) : (s.modLive n f).channel k = s.channel k := rfl
@[simp] theorem State.modLive_listenersOf (n : Fin 16) (f : Live → Live) (k : Fin 8) : (s.modLive n f).listenersOf k = s.listenersOf k := rfl
@[simp] theorem State.modLive_source (n : Fin 16) (f : Live → Live) (k : Fin 20) : (s.modLive n f).source k = s.source k := rfl

/-! ### setChannel: the record of one channel -/

@[simp] theorem State.setChannel_rstnLow (c : Fin 8) (x : Channel) : (s.setChannel c x).rstnLow = s.rstnLow := rfl
@[simp] theorem State.setChannel_clock (c : Fin 8) (x : Channel) : (s.setChannel c x).clock = s.clock := rfl
@[simp] theorem State.setChannel_channels (c : Fin 8) (x : Channel) : (s.setChannel c x).channels = s.channels.set c x := rfl
@[simp] theorem State.setChannel_bus (c : Fin 8) (x : Channel) : (s.setChannel c x).bus = s.bus := rfl
@[simp] theorem State.setChannel_engine (c : Fin 8) (x : Channel) : (s.setChannel c x).engine = s.engine := rfl
@[simp] theorem State.setChannel_contexts (c : Fin 8) (x : Channel) : (s.setChannel c x).contexts = s.contexts := rfl
@[simp] theorem State.setChannel_listeners (c : Fin 8) (x : Channel) : (s.setChannel c x).listeners = s.listeners := rfl
@[simp] theorem State.setChannel_lossNotices (c : Fin 8) (x : Channel) : (s.setChannel c x).lossNotices = s.lossNotices := rfl
@[simp] theorem State.setChannel_quotient (c : Fin 8) (x : Channel) : (s.setChannel c x).quotient = s.quotient := rfl
@[simp] theorem State.setChannel_attention (c : Fin 8) (x : Channel) : (s.setChannel c x).attention = s.attention := rfl
@[simp] theorem State.setChannel_port (c : Fin 8) (x : Channel) : (s.setChannel c x).port = s.port := rfl
@[simp] theorem State.setChannel_pending (c : Fin 8) (x : Channel) : (s.setChannel c x).pending = s.pending := rfl
@[simp] theorem State.setChannel_ctx (c : Fin 8) (x : Channel) (k : Fin 16) : (s.setChannel c x).ctx k = s.ctx k := rfl
@[simp] theorem State.setChannel_listenersOf (c : Fin 8) (x : Channel) (k : Fin 8) : (s.setChannel c x).listenersOf k = s.listenersOf k := rfl
@[simp] theorem State.setChannel_source (c : Fin 8) (x : Channel) (k : Fin 20) : (s.setChannel c x).source k = s.source k := rfl

/-! ### emptyHistories: the emptied histories of one channel -/

@[simp] theorem State.emptyHistories_rstnLow (c : Fin 8) : (s.emptyHistories c).rstnLow = s.rstnLow := rfl
@[simp] theorem State.emptyHistories_clock (c : Fin 8) : (s.emptyHistories c).clock = s.clock := rfl
@[simp] theorem State.emptyHistories_bus (c : Fin 8) : (s.emptyHistories c).bus = s.bus := rfl
@[simp] theorem State.emptyHistories_engine (c : Fin 8) : (s.emptyHistories c).engine = s.engine := rfl
@[simp] theorem State.emptyHistories_contexts (c : Fin 8) : (s.emptyHistories c).contexts = s.contexts := rfl
@[simp] theorem State.emptyHistories_listeners (c : Fin 8) : (s.emptyHistories c).listeners = s.listeners := rfl
@[simp] theorem State.emptyHistories_lossNotices (c : Fin 8) : (s.emptyHistories c).lossNotices = s.lossNotices := rfl
@[simp] theorem State.emptyHistories_quotient (c : Fin 8) : (s.emptyHistories c).quotient = s.quotient := rfl
@[simp] theorem State.emptyHistories_attention (c : Fin 8) : (s.emptyHistories c).attention = s.attention := rfl
@[simp] theorem State.emptyHistories_port (c : Fin 8) : (s.emptyHistories c).port = s.port := rfl
@[simp] theorem State.emptyHistories_pending (c : Fin 8) : (s.emptyHistories c).pending = s.pending := rfl
@[simp] theorem State.emptyHistories_ctx (c : Fin 8) (k : Fin 16) : (s.emptyHistories c).ctx k = s.ctx k := rfl
@[simp] theorem State.emptyHistories_listenersOf (c : Fin 8) (k : Fin 8) : (s.emptyHistories c).listenersOf k = s.listenersOf k := rfl
@[simp] theorem State.emptyHistories_source (c : Fin 8) (k : Fin 20) : (s.emptyHistories c).source k = s.source k := rfl

/-! ### setSource: the record of one source -/

@[simp] theorem State.setSource_rstnLow (id : Fin 20) (x : Source) : (s.setSource id x).rstnLow = s.rstnLow := rfl
@[simp] theorem State.setSource_clock (id : Fin 20) (x : Source) : (s.setSource id x).clock = s.clock := rfl
@[simp] theorem State.setSource_channels (id : Fin 20) (x : Source) : (s.setSource id x).channels = s.channels := rfl
@[simp] theorem State.setSource_bus (id : Fin 20) (x : Source) : (s.setSource id x).bus = s.bus := rfl
@[simp] theorem State.setSource_engine (id : Fin 20) (x : Source) : (s.setSource id x).engine = s.engine := rfl
@[simp] theorem State.setSource_contexts (id : Fin 20) (x : Source) : (s.setSource id x).contexts = s.contexts := rfl
@[simp] theorem State.setSource_listeners (id : Fin 20) (x : Source) : (s.setSource id x).listeners = s.listeners := rfl
@[simp] theorem State.setSource_lossNotices (id : Fin 20) (x : Source) : (s.setSource id x).lossNotices = s.lossNotices := rfl
@[simp] theorem State.setSource_quotient (id : Fin 20) (x : Source) : (s.setSource id x).quotient = s.quotient := rfl
@[simp] theorem State.setSource_port (id : Fin 20) (x : Source) : (s.setSource id x).port = s.port := rfl
@[simp] theorem State.setSource_pending (id : Fin 20) (x : Source) : (s.setSource id x).pending = s.pending := rfl
@[simp] theorem State.setSource_ctx (id : Fin 20) (x : Source) (k : Fin 16) : (s.setSource id x).ctx k = s.ctx k := rfl
@[simp] theorem State.setSource_channel (id : Fin 20) (x : Source) (k : Fin 8) : (s.setSource id x).channel k = s.channel k := rfl
@[simp] theorem State.setSource_listenersOf (id : Fin 20) (x : Source) (k : Fin 8) : (s.setSource id x).listenersOf k = s.listenersOf k := rfl

/-! ### raise: a raised cause -/

@[simp] theorem State.raise_rstnLow (id : Fin 20) (c : Fin 4) : (s.raise id c).rstnLow = s.rstnLow := rfl
@[simp] theorem State.raise_clock (id : Fin 20) (c : Fin 4) : (s.raise id c).clock = s.clock := rfl
@[simp] theorem State.raise_channels (id : Fin 20) (c : Fin 4) : (s.raise id c).channels = s.channels := rfl
@[simp] theorem State.raise_bus (id : Fin 20) (c : Fin 4) : (s.raise id c).bus = s.bus := rfl
@[simp] theorem State.raise_engine (id : Fin 20) (c : Fin 4) : (s.raise id c).engine = s.engine := rfl
@[simp] theorem State.raise_contexts (id : Fin 20) (c : Fin 4) : (s.raise id c).contexts = s.contexts := rfl
@[simp] theorem State.raise_listeners (id : Fin 20) (c : Fin 4) : (s.raise id c).listeners = s.listeners := rfl
@[simp] theorem State.raise_lossNotices (id : Fin 20) (c : Fin 4) : (s.raise id c).lossNotices = s.lossNotices := rfl
@[simp] theorem State.raise_quotient (id : Fin 20) (c : Fin 4) : (s.raise id c).quotient = s.quotient := rfl
@[simp] theorem State.raise_port (id : Fin 20) (c : Fin 4) : (s.raise id c).port = s.port := rfl
@[simp] theorem State.raise_pending (id : Fin 20) (c : Fin 4) : (s.raise id c).pending = s.pending := rfl
@[simp] theorem State.raise_ctx (id : Fin 20) (c : Fin 4) (k : Fin 16) : (s.raise id c).ctx k = s.ctx k := rfl
@[simp] theorem State.raise_channel (id : Fin 20) (c : Fin 4) (k : Fin 8) : (s.raise id c).channel k = s.channel k := rfl
@[simp] theorem State.raise_listenersOf (id : Fin 20) (c : Fin 4) (k : Fin 8) : (s.raise id c).listenersOf k = s.listenersOf k := rfl

/-! ### clearEvents: cleared causes -/

@[simp] theorem State.clearEvents_rstnLow (id : Fin 20) : (s.clearEvents id).rstnLow = s.rstnLow := rfl
@[simp] theorem State.clearEvents_clock (id : Fin 20) : (s.clearEvents id).clock = s.clock := rfl
@[simp] theorem State.clearEvents_channels (id : Fin 20) : (s.clearEvents id).channels = s.channels := rfl
@[simp] theorem State.clearEvents_bus (id : Fin 20) : (s.clearEvents id).bus = s.bus := rfl
@[simp] theorem State.clearEvents_engine (id : Fin 20) : (s.clearEvents id).engine = s.engine := rfl
@[simp] theorem State.clearEvents_contexts (id : Fin 20) : (s.clearEvents id).contexts = s.contexts := rfl
@[simp] theorem State.clearEvents_listeners (id : Fin 20) : (s.clearEvents id).listeners = s.listeners := rfl
@[simp] theorem State.clearEvents_lossNotices (id : Fin 20) : (s.clearEvents id).lossNotices = s.lossNotices := rfl
@[simp] theorem State.clearEvents_quotient (id : Fin 20) : (s.clearEvents id).quotient = s.quotient := rfl
@[simp] theorem State.clearEvents_port (id : Fin 20) : (s.clearEvents id).port = s.port := rfl
@[simp] theorem State.clearEvents_pending (id : Fin 20) : (s.clearEvents id).pending = s.pending := rfl
@[simp] theorem State.clearEvents_ctx (id : Fin 20) (k : Fin 16) : (s.clearEvents id).ctx k = s.ctx k := rfl
@[simp] theorem State.clearEvents_channel (id : Fin 20) (k : Fin 8) : (s.clearEvents id).channel k = s.channel k := rfl
@[simp] theorem State.clearEvents_listenersOf (id : Fin 20) (k : Fin 8) : (s.clearEvents id).listenersOf k = s.listenersOf k := rfl

/-! ### setEngine: the calibration engine -/

@[simp] theorem State.setEngine_rstnLow (e : Engine) : (s.setEngine e).rstnLow = s.rstnLow := rfl
@[simp] theorem State.setEngine_clock (e : Engine) : (s.setEngine e).clock = s.clock := rfl
@[simp] theorem State.setEngine_channels (e : Engine) : (s.setEngine e).channels = s.channels := rfl
@[simp] theorem State.setEngine_bus (e : Engine) : (s.setEngine e).bus = s.bus := rfl
@[simp] theorem State.setEngine_engine (e : Engine) : (s.setEngine e).engine = e := rfl
@[simp] theorem State.setEngine_contexts (e : Engine) : (s.setEngine e).contexts = s.contexts := rfl
@[simp] theorem State.setEngine_listeners (e : Engine) : (s.setEngine e).listeners = s.listeners := rfl
@[simp] theorem State.setEngine_lossNotices (e : Engine) : (s.setEngine e).lossNotices = s.lossNotices := rfl
@[simp] theorem State.setEngine_quotient (e : Engine) : (s.setEngine e).quotient = s.quotient := rfl
@[simp] theorem State.setEngine_attention (e : Engine) : (s.setEngine e).attention = s.attention := rfl
@[simp] theorem State.setEngine_port (e : Engine) : (s.setEngine e).port = s.port := rfl
@[simp] theorem State.setEngine_pending (e : Engine) : (s.setEngine e).pending = s.pending := rfl
@[simp] theorem State.setEngine_ctx (e : Engine) (k : Fin 16) : (s.setEngine e).ctx k = s.ctx k := rfl
@[simp] theorem State.setEngine_channel (e : Engine) (k : Fin 8) : (s.setEngine e).channel k = s.channel k := rfl
@[simp] theorem State.setEngine_listenersOf (e : Engine) (k : Fin 8) : (s.setEngine e).listenersOf k = s.listenersOf k := rfl
@[simp] theorem State.setEngine_source (e : Engine) (k : Fin 20) : (s.setEngine e).source k = s.source k := rfl

/-! ### setTimescale: the timescale -/

@[simp] theorem State.setTimescale_rstnLow (t : Tick) : (s.setTimescale t).rstnLow = s.rstnLow := rfl
@[simp] theorem State.setTimescale_clock (t : Tick) : (s.setTimescale t).clock = { s.clock with timescale := t } := rfl
@[simp] theorem State.setTimescale_channels (t : Tick) : (s.setTimescale t).channels = s.channels := rfl
@[simp] theorem State.setTimescale_bus (t : Tick) : (s.setTimescale t).bus = s.bus := rfl
@[simp] theorem State.setTimescale_engine (t : Tick) : (s.setTimescale t).engine = s.engine := rfl
@[simp] theorem State.setTimescale_contexts (t : Tick) : (s.setTimescale t).contexts = s.contexts := rfl
@[simp] theorem State.setTimescale_listeners (t : Tick) : (s.setTimescale t).listeners = s.listeners := rfl
@[simp] theorem State.setTimescale_lossNotices (t : Tick) : (s.setTimescale t).lossNotices = s.lossNotices := rfl
@[simp] theorem State.setTimescale_quotient (t : Tick) : (s.setTimescale t).quotient = s.quotient := rfl
@[simp] theorem State.setTimescale_attention (t : Tick) : (s.setTimescale t).attention = s.attention := rfl
@[simp] theorem State.setTimescale_port (t : Tick) : (s.setTimescale t).port = s.port := rfl
@[simp] theorem State.setTimescale_pending (t : Tick) : (s.setTimescale t).pending = s.pending := rfl
@[simp] theorem State.setTimescale_ctx (t : Tick) (k : Fin 16) : (s.setTimescale t).ctx k = s.ctx k := rfl
@[simp] theorem State.setTimescale_channel (t : Tick) (k : Fin 8) : (s.setTimescale t).channel k = s.channel k := rfl
@[simp] theorem State.setTimescale_listenersOf (t : Tick) (k : Fin 8) : (s.setTimescale t).listenersOf k = s.listenersOf k := rfl
@[simp] theorem State.setTimescale_source (t : Tick) (k : Fin 20) : (s.setTimescale t).source k = s.source k := rfl

/-! ### elapse: one elapsed tick -/

@[simp] theorem State.elapse_rstnLow : (s.elapse).rstnLow = s.rstnLow := rfl
@[simp] theorem State.elapse_channels : (s.elapse).channels = s.channels := rfl
@[simp] theorem State.elapse_bus : (s.elapse).bus = s.bus := rfl
@[simp] theorem State.elapse_contexts : (s.elapse).contexts = s.contexts := rfl
@[simp] theorem State.elapse_listeners : (s.elapse).listeners = s.listeners := rfl
@[simp] theorem State.elapse_lossNotices : (s.elapse).lossNotices = s.lossNotices := rfl
@[simp] theorem State.elapse_quotient : (s.elapse).quotient = s.quotient := rfl
@[simp] theorem State.elapse_attention : (s.elapse).attention = s.attention := rfl
@[simp] theorem State.elapse_port : (s.elapse).port = s.port := rfl
@[simp] theorem State.elapse_pending : (s.elapse).pending = s.pending := rfl
@[simp] theorem State.elapse_ctx (k : Fin 16) : (s.elapse).ctx k = s.ctx k := rfl
@[simp] theorem State.elapse_channel (k : Fin 8) : (s.elapse).channel k = s.channel k := rfl
@[simp] theorem State.elapse_listenersOf (k : Fin 8) : (s.elapse).listenersOf k = s.listenersOf k := rfl
@[simp] theorem State.elapse_source (k : Fin 20) : (s.elapse).source k = s.source k := rfl

/-! ### restamp: the edge ticks still to come after a load -/

@[simp] theorem State.restamp_rstnLow (t : Tick) : (s.restamp t).rstnLow = s.rstnLow := rfl
@[simp] theorem State.restamp_clock (t : Tick) : (s.restamp t).clock = s.clock := rfl
@[simp] theorem State.restamp_channels (t : Tick) : (s.restamp t).channels = s.channels := rfl
@[simp] theorem State.restamp_engine (t : Tick) : (s.restamp t).engine = s.engine := rfl
@[simp] theorem State.restamp_contexts (t : Tick) : (s.restamp t).contexts = s.contexts := rfl
@[simp] theorem State.restamp_listeners (t : Tick) : (s.restamp t).listeners = s.listeners := rfl
@[simp] theorem State.restamp_lossNotices (t : Tick) : (s.restamp t).lossNotices = s.lossNotices := rfl
@[simp] theorem State.restamp_quotient (t : Tick) : (s.restamp t).quotient = s.quotient := rfl
@[simp] theorem State.restamp_attention (t : Tick) : (s.restamp t).attention = s.attention := rfl
@[simp] theorem State.restamp_port (t : Tick) : (s.restamp t).port = s.port := rfl
@[simp] theorem State.restamp_pending (t : Tick) : (s.restamp t).pending = s.pending := rfl
@[simp] theorem State.restamp_ctx (t : Tick) (k : Fin 16) : (s.restamp t).ctx k = s.ctx k := rfl
@[simp] theorem State.restamp_channel (t : Tick) (k : Fin 8) : (s.restamp t).channel k = s.channel k := rfl
@[simp] theorem State.restamp_listenersOf (t : Tick) (k : Fin 8) : (s.restamp t).listenersOf k = s.listenersOf k := rfl
@[simp] theorem State.restamp_source (t : Tick) (k : Fin 20) : (s.restamp t).source k = s.source k := rfl

/-! ### syncOff: the SYNC mode -/

@[simp] theorem State.syncOff_rstnLow : (s.syncOff).rstnLow = s.rstnLow := rfl
@[simp] theorem State.syncOff_clock : (s.syncOff).clock = { s.clock with syncMode := .off } := rfl
@[simp] theorem State.syncOff_channels : (s.syncOff).channels = s.channels := rfl
@[simp] theorem State.syncOff_bus : (s.syncOff).bus = s.bus := rfl
@[simp] theorem State.syncOff_engine : (s.syncOff).engine = s.engine := rfl
@[simp] theorem State.syncOff_contexts : (s.syncOff).contexts = s.contexts := rfl
@[simp] theorem State.syncOff_listeners : (s.syncOff).listeners = s.listeners := rfl
@[simp] theorem State.syncOff_lossNotices : (s.syncOff).lossNotices = s.lossNotices := rfl
@[simp] theorem State.syncOff_quotient : (s.syncOff).quotient = s.quotient := rfl
@[simp] theorem State.syncOff_attention : (s.syncOff).attention = s.attention := rfl
@[simp] theorem State.syncOff_port : (s.syncOff).port = s.port := rfl
@[simp] theorem State.syncOff_pending : (s.syncOff).pending = s.pending := rfl
@[simp] theorem State.syncOff_ctx (k : Fin 16) : (s.syncOff).ctx k = s.ctx k := rfl
@[simp] theorem State.syncOff_channel (k : Fin 8) : (s.syncOff).channel k = s.channel k := rfl
@[simp] theorem State.syncOff_listenersOf (k : Fin 8) : (s.syncOff).listenersOf k = s.listenersOf k := rfl
@[simp] theorem State.syncOff_source (k : Fin 20) : (s.syncOff).source k = s.source k := rfl

/-! ### relist: the listener lists -/

@[simp] theorem State.relist_rstnLow (n : Fin 16) (g : CtxConfig) : (s.relist n g).rstnLow = s.rstnLow := rfl
@[simp] theorem State.relist_clock (n : Fin 16) (g : CtxConfig) : (s.relist n g).clock = s.clock := rfl
@[simp] theorem State.relist_channels (n : Fin 16) (g : CtxConfig) : (s.relist n g).channels = s.channels := rfl
@[simp] theorem State.relist_bus (n : Fin 16) (g : CtxConfig) : (s.relist n g).bus = s.bus := rfl
@[simp] theorem State.relist_engine (n : Fin 16) (g : CtxConfig) : (s.relist n g).engine = s.engine := rfl
@[simp] theorem State.relist_contexts (n : Fin 16) (g : CtxConfig) : (s.relist n g).contexts = s.contexts := rfl
@[simp] theorem State.relist_lossNotices (n : Fin 16) (g : CtxConfig) : (s.relist n g).lossNotices = s.lossNotices := rfl
@[simp] theorem State.relist_quotient (n : Fin 16) (g : CtxConfig) : (s.relist n g).quotient = s.quotient := rfl
@[simp] theorem State.relist_attention (n : Fin 16) (g : CtxConfig) : (s.relist n g).attention = s.attention := rfl
@[simp] theorem State.relist_port (n : Fin 16) (g : CtxConfig) : (s.relist n g).port = s.port := rfl
@[simp] theorem State.relist_pending (n : Fin 16) (g : CtxConfig) : (s.relist n g).pending = s.pending := rfl
@[simp] theorem State.relist_ctx (n : Fin 16) (g : CtxConfig) (k : Fin 16) : (s.relist n g).ctx k = s.ctx k := rfl
@[simp] theorem State.relist_channel (n : Fin 16) (g : CtxConfig) (k : Fin 8) : (s.relist n g).channel k = s.channel k := rfl
@[simp] theorem State.relist_source (n : Fin 16) (g : CtxConfig) (k : Fin 20) : (s.relist n g).source k = s.source k := rfl

/-! ### startFrame: the beginning of a frame -/

@[simp] theorem State.startFrame_rstnLow : (s.startFrame).rstnLow = s.rstnLow := rfl
@[simp] theorem State.startFrame_clock : (s.startFrame).clock = s.clock := rfl
@[simp] theorem State.startFrame_channels : (s.startFrame).channels = s.channels := rfl
@[simp] theorem State.startFrame_bus : (s.startFrame).bus = s.bus := rfl
@[simp] theorem State.startFrame_engine : (s.startFrame).engine = s.engine := rfl
@[simp] theorem State.startFrame_contexts : (s.startFrame).contexts = s.contexts := rfl
@[simp] theorem State.startFrame_listeners : (s.startFrame).listeners = s.listeners := rfl
@[simp] theorem State.startFrame_lossNotices : (s.startFrame).lossNotices = s.lossNotices := rfl
@[simp] theorem State.startFrame_quotient : (s.startFrame).quotient = s.quotient := rfl
@[simp] theorem State.startFrame_attention : (s.startFrame).attention = s.attention := rfl
@[simp] theorem State.startFrame_pending : (s.startFrame).pending = s.pending := rfl
@[simp] theorem State.startFrame_ctx (k : Fin 16) : (s.startFrame).ctx k = s.ctx k := rfl
@[simp] theorem State.startFrame_channel (k : Fin 8) : (s.startFrame).channel k = s.channel k := rfl
@[simp] theorem State.startFrame_listenersOf (k : Fin 8) : (s.startFrame).listenersOf k = s.listenersOf k := rfl
@[simp] theorem State.startFrame_source (k : Fin 20) : (s.startFrame).source k = s.source k := rfl

/-! ### sendLossNotices: reference-loss notices sent -/

@[simp] theorem State.sendLossNotices_rstnLow : (s.sendLossNotices).rstnLow = s.rstnLow := rfl
@[simp] theorem State.sendLossNotices_clock : (s.sendLossNotices).clock = s.clock := rfl
@[simp] theorem State.sendLossNotices_channels : (s.sendLossNotices).channels = s.channels := rfl
@[simp] theorem State.sendLossNotices_bus : (s.sendLossNotices).bus = s.bus := rfl
@[simp] theorem State.sendLossNotices_engine : (s.sendLossNotices).engine = s.engine := rfl
@[simp] theorem State.sendLossNotices_contexts : (s.sendLossNotices).contexts = s.contexts := rfl
@[simp] theorem State.sendLossNotices_listeners : (s.sendLossNotices).listeners = s.listeners := rfl
@[simp] theorem State.sendLossNotices_quotient : (s.sendLossNotices).quotient = s.quotient := rfl
@[simp] theorem State.sendLossNotices_attention : (s.sendLossNotices).attention = s.attention := rfl
@[simp] theorem State.sendLossNotices_port : (s.sendLossNotices).port = s.port := rfl
@[simp] theorem State.sendLossNotices_pending : (s.sendLossNotices).pending = s.pending := rfl
@[simp] theorem State.sendLossNotices_ctx (k : Fin 16) : (s.sendLossNotices).ctx k = s.ctx k := rfl
@[simp] theorem State.sendLossNotices_channel (k : Fin 8) : (s.sendLossNotices).channel k = s.channel k := rfl
@[simp] theorem State.sendLossNotices_listenersOf (k : Fin 8) : (s.sendLossNotices).listenersOf k = s.listenersOf k := rfl
@[simp] theorem State.sendLossNotices_source (k : Fin 20) : (s.sendLossNotices).source k = s.source k := rfl

/-! ### What an update of one record leaves of the others -/

@[simp] theorem State.ctx_setCtx_self (n : Fin 16) (c : Context) : (s.setCtx n c).ctx n = c := by
  simp [State.ctx, State.setCtx]

theorem State.ctx_setCtx (n m : Fin 16) (c : Context) : (s.setCtx n c).ctx m = if m = n then c else s.ctx m := by
  simp only [State.ctx, State.setCtx, Fin.getElem_fin, Vector.getElem_set, Fin.ext_iff, eq_comm]

@[simp] theorem State.ctx_setCtx_of_ne {n m : Fin 16} (h : m ≠ n) (c : Context) : (s.setCtx n c).ctx m = s.ctx m := by
  simp [State.ctx_setCtx, h]

@[simp] theorem State.ctx_modCtx_self (n : Fin 16) (f : Context → Context) : (s.modCtx n f).ctx n = f (s.ctx n) := by
  simp [State.modCtx]

@[simp] theorem State.ctx_modCtx_of_ne {n m : Fin 16} (h : m ≠ n) (f : Context → Context) : (s.modCtx n f).ctx m = s.ctx m := by
  simp [State.modCtx, h]

@[simp] theorem State.ctx_modLive_self (n : Fin 16) (f : Live → Live) :
    (s.modLive n f).ctx n = { s.ctx n with live := f (s.ctx n).live } := by
  simp [State.modLive]

@[simp] theorem State.ctx_modLive_of_ne {n m : Fin 16} (h : m ≠ n) (f : Live → Live) : (s.modLive n f).ctx m = s.ctx m := by
  simp [State.modLive, h]

theorem State.setCtx_setCtx (n : Fin 16) (c d : Context) : (s.setCtx n c).setCtx n d = s.setCtx n d := by
  simp [State.setCtx]

theorem State.setCtx_ctx (n : Fin 16) : s.setCtx n (s.ctx n) = s := by
  simp [State.setCtx, State.ctx]

@[simp] theorem State.channel_setChannel_self (c : Fin 8) (x : Channel) : (s.setChannel c x).channel c = x := by
  simp [State.channel, State.setChannel]

@[simp] theorem State.channel_setChannel_of_ne {c d : Fin 8} (h : d ≠ c) (x : Channel) :
    (s.setChannel c x).channel d = s.channel d := by
  have h' : c.val ≠ d.val := fun e => h (Fin.ext e.symm)
  simp [State.channel, State.setChannel, h']

theorem State.source_setSource (id k : Fin 20) (x : Source) : (s.setSource id x).source k = if k = id then x else s.source k := by
  simp only [State.source, State.setSource, Fin.getElem_fin, Vector.getElem_set, Fin.ext_iff, eq_comm]

@[simp] theorem State.source_setSource_self (id : Fin 20) (x : Source) : (s.setSource id x).source id = x := by
  simp [State.source_setSource]

@[simp] theorem State.source_setSource_of_ne {id k : Fin 20} (h : k ≠ id) (x : Source) :
    (s.setSource id x).source k = s.source k := by
  simp [State.source_setSource, h]

@[simp] theorem State.setSource_threshold (id : Fin 20) (x : Source) :
    (s.setSource id x).attention.threshold = s.attention.threshold := rfl

@[simp] theorem State.setTimescale_elapsed (t : Tick) : (s.setTimescale t).clock.elapsed = s.clock.elapsed := rfl

@[simp] theorem State.elapse_timescale : s.elapse.clock.timescale = s.clock.timescale := rfl

@[simp] theorem State.elapse_elapsed : s.elapse.clock.elapsed = s.clock.elapsed + 1 := rfl

@[simp] theorem State.elapse_search : s.elapse.clock.search = s.clock.search.map fun k => k + 1 := rfl

@[simp] theorem State.elapse_queue : s.elapse.engine.queue = s.engine.queue := rfl

@[simp] theorem State.elapse_tables : s.elapse.engine.tables = s.engine.tables := rfl

@[simp] theorem State.elapse_init : s.elapse.engine.init = s.engine.init := rfl

/-! ### The port -/

@[simp] theorem Answer.sent_rstnLow (a : Answer) (p : Nat) : (a.sent p).rstnLow = a.state.rstnLow := rfl
@[simp] theorem Answer.sent_clock (a : Answer) (p : Nat) : (a.sent p).clock = a.state.clock := rfl
@[simp] theorem Answer.sent_channels (a : Answer) (p : Nat) : (a.sent p).channels = a.state.channels := rfl
@[simp] theorem Answer.sent_bus (a : Answer) (p : Nat) : (a.sent p).bus = a.state.bus := rfl
@[simp] theorem Answer.sent_engine (a : Answer) (p : Nat) : (a.sent p).engine = a.state.engine := rfl
@[simp] theorem Answer.sent_contexts (a : Answer) (p : Nat) : (a.sent p).contexts = a.state.contexts := rfl
@[simp] theorem Answer.sent_listeners (a : Answer) (p : Nat) : (a.sent p).listeners = a.state.listeners := rfl
@[simp] theorem Answer.sent_lossNotices (a : Answer) (p : Nat) : (a.sent p).lossNotices = a.state.lossNotices := rfl
@[simp] theorem Answer.sent_quotient (a : Answer) (p : Nat) : (a.sent p).quotient = a.state.quotient := rfl
@[simp] theorem Answer.sent_attention (a : Answer) (p : Nat) : (a.sent p).attention = a.state.attention := rfl
@[simp] theorem Answer.sent_pending (a : Answer) (p : Nat) : (a.sent p).pending = a.state.pending := rfl
@[simp] theorem Answer.sent_ctx (a : Answer) (p : Nat) (k : Fin 16) : (a.sent p).ctx k = a.state.ctx k := rfl
@[simp] theorem Answer.sent_channel (a : Answer) (p : Nat) (k : Fin 8) : (a.sent p).channel k = a.state.channel k := rfl
@[simp] theorem Answer.sent_source (a : Answer) (p : Nat) (k : Fin 20) : (a.sent p).source k = a.state.source k := rfl
@[simp] theorem Answer.sent_listenersOf (a : Answer) (p : Nat) (k : Fin 8) : (a.sent p).listenersOf k = a.state.listenersOf k := rfl

/-- Outside an open frame a command opens its own. -/
theorem State.openFrame_of_not_opened {s : State} (h : s.port.frame ≠ .opened) : s.openFrame = s.startFrame := by
  simp [State.openFrame, h]

/-- Inside an open frame nothing is opened. -/
theorem State.openFrame_of_opened {s : State} (h : s.port.frame = .opened) : s.openFrame = s := by
  simp [State.openFrame, h]

/-- Opening a frame changes nothing but the port. -/
theorem State.openFrame_eq (s : State) : ∃ p, s.openFrame = { s with port := p } := by
  unfold State.openFrame
  split
  · exact ⟨s.port, rfl⟩
  · exact ⟨_, rfl⟩

/-- Moving CSN alone changes nothing but the port's phase. -/
theorem State.setFrame_eq (s : State) (p : FramePhase) : s.setFrame p = { s with port := { s.port with frame := p } } := rfl

/-- With RSTN low a host command does nothing (R176). -/
theorem State.runCommand_of_low {s : State} (h : s.rstnLow = true) (p : Nat) (run : State → Answer) : s.runCommand p run = s := by
  simp [State.runCommand, h]

/-- In a frame that is not taken a host command does nothing (R176). -/
theorem State.runCommand_of_ignored {s : State} (h : s.port.frame = .ignored) (p : Nat) (run : State → Answer) :
    s.runCommand p run = s := by
  simp [State.runCommand, h]

/-- With RSTN high a host command runs in its frame and is answered (R165). -/
theorem State.runCommand_of_high {s : State} (h : s.rstnLow = false) (hf : s.port.frame ≠ .ignored) (p : Nat) (run : State → Answer) :
    s.runCommand p run = (run s.openFrame).sent p := by
  simp [State.runCommand, h, hf]

/-- What a host command can do: nothing while RSTN is low or in a frame not taken, or its run in the frame, of which the rest of the part is
`s`. -/
theorem State.runCommand_cases (s : State) (k : Nat) (run : State → Answer) :
    s.runCommand k run = s ∨ ∃ p, s.runCommand k run = (run { s with port := p }).sent k := by
  obtain ⟨p, hp⟩ := s.openFrame_eq
  unfold State.runCommand
  split
  · exact .inl rfl
  · exact .inr ⟨p, by rw [hp]⟩

end Sys2Proof.Machine
end

