-- ==== Sys2Proof/Laws/Context.lean ====
section
/-! SUPPORT. What an event of one context can reach: that context but for its configuration, the events of its own attention source and
the quotient queue. One lemma per shared operation says so once; later proofs cite it and do not unfold the operation. -/

namespace Sys2Proof.Machine

/-- `t` differs from `s` at most in the state, figures, slot, record and counts of context `n`, in the event causes of its source and in
the quotient queue. -/
structure ContextOnly (n : Fin 16) (s t : State) : Prop where
  rstnLow : t.rstnLow = s.rstnLow
  clock : t.clock = s.clock
  channels : t.channels = s.channels
  bus : t.bus = s.bus
  engine : t.engine = s.engine
  listeners : t.listeners = s.listeners
  lossNotices : t.lossNotices = s.lossNotices
  port : t.port = s.port
  pending : t.pending = s.pending
  work : t.quotient.work = s.quotient.work
  threshold : t.attention.threshold = s.attention.threshold
  others : ∀ m, m ≠ n → t.ctx m = s.ctx m
  config : (t.ctx n).config = (s.ctx n).config
  sources : ∀ id, id ≠ contextSource n → t.source id = s.source id
  priority : (t.source (contextSource n)).priority = (s.source (contextSource n)).priority
  mask : (t.source (contextSource n)).mask = (s.source (contextSource n)).mask

namespace ContextOnly

variable {n : Fin 16} {s t u : State}

theorem refl (n : Fin 16) (s : State) : ContextOnly n s s :=
  ⟨rfl, rfl, rfl, rfl, rfl, rfl, rfl, rfl, rfl, rfl, rfl, fun _ _ => rfl, rfl, fun _ _ => rfl, rfl, rfl⟩

theorem trans (a : ContextOnly n s t) (b : ContextOnly n t u) : ContextOnly n s u where
  rstnLow := b.rstnLow.trans a.rstnLow
  clock := b.clock.trans a.clock
  channels := b.channels.trans a.channels
  bus := b.bus.trans a.bus
  engine := b.engine.trans a.engine
  listeners := b.listeners.trans a.listeners
  lossNotices := b.lossNotices.trans a.lossNotices
  port := b.port.trans a.port
  pending := b.pending.trans a.pending
  work := b.work.trans a.work
  threshold := b.threshold.trans a.threshold
  others m h := (b.others m h).trans (a.others m h)
  config := b.config.trans a.config
  sources id h := (b.sources id h).trans (a.sources id h)
  priority := b.priority.trans a.priority
  mask := b.mask.trans a.mask

/-- Writing the record of context `n` with its configuration kept. -/
theorem setCtx (s : State) (n : Fin 16) {c : Context} (h : c.config = (s.ctx n).config) : ContextOnly n s (s.setCtx n c) where
  rstnLow := rfl
  clock := rfl
  channels := rfl
  bus := rfl
  engine := rfl
  listeners := rfl
  lossNotices := rfl
  port := rfl
  pending := rfl
  work := rfl
  threshold := rfl
  others m hm := by simp [hm]
  config := by simpa using h
  sources _ _ := rfl
  priority := rfl
  mask := rfl

/-- What follows the writing of context `n`, seen from before it. -/
theorem ofSetCtx {c : Context} (b : ContextOnly n (s.setCtx n c) u) (h : c.config = (s.ctx n).config) : ContextOnly n s u :=
  (setCtx s n h).trans b

theorem modCtx (s : State) (n : Fin 16) {f : Context → Context} (h : (f (s.ctx n)).config = (s.ctx n).config) :
    ContextOnly n s (s.modCtx n f) := setCtx s n h

theorem modLive (s : State) (n : Fin 16) (f : Live → Live) : ContextOnly n s (s.modLive n f) := modCtx s n rfl

theorem raise (s : State) (n : Fin 16) (k : Fin 4) : ContextOnly n s (s.raise (contextSource n) k) where
  rstnLow := rfl
  clock := rfl
  channels := rfl
  bus := rfl
  engine := rfl
  listeners := rfl
  lossNotices := rfl
  port := rfl
  pending := rfl
  work := rfl
  threshold := rfl
  others _ _ := rfl
  config := rfl
  sources id hid := by simp [State.raise, hid]
  priority := by simp [State.raise]
  mask := by simp [State.raise]

/-- Joining the quotient queue. -/
theorem queue (s : State) (n : Fin 16) (q : List (Fin 16)) :
    ContextOnly n s { s with quotient := { s.quotient with queue := q } } :=
  ⟨rfl, rfl, rfl, rfl, rfl, rfl, rfl, rfl, rfl, rfl, rfl, fun _ _ => rfl, rfl, fun _ _ => rfl, rfl, rfl⟩

theorem ite {p : Prop} [Decidable p] (a : ContextOnly n s t) (b : ContextOnly n s u) : ContextOnly n s (if p then t else u) := by
  split <;> assumption

/-! ### Postings and closed gates -/

theorem handOn (s : State) (n : Fin 16) (g : RawGate) : ContextOnly n s (s.handOn n g) := by
  unfold State.handOn
  refine ite ((modCtx s n rfl).trans (raise _ n _)) ((modCtx s n rfl).trans (queue _ n _))

theorem endRun (s : State) (n : Fin 16) : ContextOnly n s (s.endRun n) := modCtx s n rfl

theorem settleContext (s : State) (n : Fin 16) : ContextOnly n s (s.settleContext n) := ite (modCtx s n rfl) (refl n s)

theorem postingCauses (s : State) (n : Fin 16) (a b : Bool) : ContextOnly n s (s.postingCauses n a b) := by
  unfold State.postingCauses
  have h : ContextOnly n s (if a = true then s.raise (contextSource n) causeOverrun else s) := ite (raise s n _) (refl n s)
  exact ite (h.trans (raise _ n _)) h

theorem post (s : State) (n : Fin 16) (f : Figures) (q : BitVec 16) (g : Flags) (p : Nat) : ContextOnly n s (s.post n f q g p) :=
  ofSetCtx ((postingCauses _ n _ _).trans (settleContext _ n)) rfl

/-! ### FREQUENCY -/

theorem frequencyStart (s : State) (n : Fin 16) (m : Message) : ContextOnly n s (s.frequencyStart n m) := modCtx s n rfl

theorem tallyItem (s : State) (n : Fin 16) : ContextOnly n s (s.tallyItem n) := ite (modLive s n _) (refl n s)

theorem frequencyClose (s : State) (n : Fin 16) (m : Message) : ContextOnly n s (s.frequencyClose n m) := by
  unfold State.frequencyClose
  extract_lets c t u
  have h : ContextOnly n s t := modCtx s n rfl
  have h2 : ContextOnly n s u := ite (h.trans (handOn _ n _)) h
  split
  · exact h2.trans (endRun _ n)
  · exact h2.trans (frequencyStart _ n m)

theorem frequencyMessage (s : State) (n : Fin 16) (m : Message) : ContextOnly n s (s.frequencyMessage n m) := by
  unfold State.frequencyMessage
  refine ite ?_ (refl n s)
  split
  · exact ite (frequencyStart s n m) (refl n s)
  · exact ite ((tallyItem s n).trans (frequencyClose _ n m)) (tallyItem s n)
  · exact ite ((tallyItem s n).trans (frequencyClose _ n m)) (tallyItem s n)
  all_goals exact refl n s

theorem frequencyNotice (s : State) (n : Fin 16) (v : Notice) : ContextOnly n s (s.frequencyNotice n v) := by
  unfold State.frequencyNotice
  refine ite ?_ (refl n s)
  split
  · exact ite ((tallyItem s n).trans (modLive _ n _)) (tallyItem s n)
  · exact ite ((tallyItem s n).trans (modLive _ n _)) (tallyItem s n)
  all_goals exact refl n s

theorem gateExpiry (s : State) (n : Fin 16) : ContextOnly n s (s.gateExpiry n) := ite (setCtx s n rfl) (refl n s)

theorem gateExpiryAtLast (s : State) (n : Fin 16) : ContextOnly n s (s.gateExpiryAtLast n) := ite (gateExpiry s n) (refl n s)

theorem frequencyWatch (s : State) (n : Fin 16) : ContextOnly n s (s.frequencyWatch n) := by
  unfold State.frequencyWatch
  dsimp only
  split
  · exact ofSetCtx (endRun _ n) rfl
  · exact setCtx s n rfl

/-! ### INTERVAL -/

theorem intervalWait (s : State) (n : Fin 16) (f : Stamp) (e : Tick) : ContextOnly n s (s.intervalWait n f e) := modCtx s n rfl

theorem intervalRecordStart (s : State) (n : Fin 16) (m : HeldStop) : ContextOnly n s (s.intervalRecordStart n m) := modCtx s n rfl

theorem batchClose (s : State) (n : Fin 16) (m : HeldStop) : ContextOnly n s (s.batchClose n m) := by
  unfold State.batchClose
  extract_lets c t u
  have h : ContextOnly n s t := modCtx s n rfl
  have h2 : ContextOnly n s u := ite (h.trans (handOn _ n _)) h
  split
  · exact h2.trans (endRun _ n)
  · exact ite (h2.trans (intervalRecordStart _ n m)) (h2.trans (intervalWait _ n _ _))

theorem intervalStop (s : State) (n : Fin 16) (m : HeldStop) : ContextOnly n s (s.intervalStop n m) := by
  unfold State.intervalStop
  extract_lets t c
  have h : ContextOnly n s t := modCtx s n rfl
  exact ite (h.trans (batchClose _ n m)) (ite (h.trans (intervalRecordStart _ n m)) (h.trans (intervalWait _ n _ _)))

theorem intervalDrop (s : State) (n : Fin 16) (k : Tick) : ContextOnly n s (s.intervalDrop n k) :=
  (modLive s n _).trans (intervalWait _ n _ _)

theorem intervalStart (s : State) (n : Fin 16) (m : HeldStop) : ContextOnly n s (s.intervalStart n m) := by
  unfold State.intervalStart
  extract_lets held t c
  have h : ContextOnly n s t := intervalRecordStart s n m
  refine ite h ?_
  split
  · exact h.trans (intervalDrop _ n _)
  · split
    · exact h.trans (intervalStop _ n _)
    · exact h

theorem intervalMessageA (s : State) (n : Fin 16) (m : Message) : ContextOnly n s (s.intervalMessageA n m) :=
  ite (intervalStart s n _) (refl n s)

theorem intervalMessageB (s : State) (n : Fin 16) (m : Message) : ContextOnly n s (s.intervalMessageB n m) := by
  unfold State.intervalMessageB
  refine ite ?_ (refl n s)
  split
  · exact ite (modLive s n _) (refl n s)
  · exact ite (intervalStop s n _) (refl n s)
  all_goals exact refl n s

theorem intervalNoticeB (s : State) (n : Fin 16) (v : Notice) : ContextOnly n s (s.intervalNoticeB n v) := by
  unfold State.intervalNoticeB
  refine ite ?_ (refl n s)
  split
  · exact ite (modLive s n _) (refl n s)
  · exact ite (intervalDrop s n _) (refl n s)
  all_goals exact refl n s

theorem intervalWatch (s : State) (n : Fin 16) : ContextOnly n s (s.intervalWatch n) := by
  unfold State.intervalWatch
  dsimp only
  split
  · exact ofSetCtx (endRun _ n) rfl
  · exact ofSetCtx (intervalWait _ n _ _) rfl

/-! ### TOTALIZE -/

theorem totalOpen (s : State) (n : Fin 16) (b : Boundary) (r k : Bool) : ContextOnly n s (s.totalOpen n b r k) := modCtx s n rfl

theorem totalContinue (s : State) (n : Fin 16) (b : Boundary) : ContextOnly n s (s.totalContinue n b) := by
  unfold State.totalContinue
  dsimp only
  split
  · exact endRun s n
  · split
    · exact totalOpen s n b _ _
    · exact totalOpen s n b _ _
    · exact setCtx s n rfl

theorem totalClose (s : State) (n : Fin 16) (b : Boundary) (f : Flags) : ContextOnly n s (s.totalClose n b f) := by
  unfold State.totalClose
  extract_lets c e total flags t u
  have h : ContextOnly n s t := modCtx s n rfl
  have h2 : ContextOnly n s u := ite (h.trans (post _ n _ _ _ _)) h
  exact h2.trans (totalContinue _ n b)

theorem totalExpiry (s : State) (n : Fin 16) : ContextOnly n s (s.totalExpiry n) := ite (totalClose s n _ _) (refl n s)

theorem windowItem (s : State) (n : Fin 16) (e : EdgeSense) (b : Boundary) (l r k : Bool) :
    ContextOnly n s (s.windowItem n e b l r k) := by
  unfold State.windowItem
  dsimp only
  split
  · exact ite (totalOpen s n b r k) (refl n s)
  · exact ite (totalClose s n b _) (refl n s)
  all_goals exact refl n s

theorem totalMessageB (s : State) (n : Fin 16) (m : Message) : ContextOnly n s (s.totalMessageB n m) :=
  ite (windowItem s n _ _ _ _ _) (refl n s)

theorem totalNoticeB (s : State) (n : Fin 16) (v : Notice) : ContextOnly n s (s.totalNoticeB n v) :=
  ite (windowItem s n _ _ _ _ _) (refl n s)

theorem windowWatch (s : State) (n : Fin 16) : ContextOnly n s (s.windowWatch n) := by
  unfold State.windowWatch
  dsimp only
  split
  · exact ofSetCtx (endRun _ n) rfl
  · exact setCtx s n rfl

theorem manualWatch (s : State) (n : Fin 16) : ContextOnly n s (s.manualWatch n) := totalClose s n _ _

/-! ### Fulfilment, items, reached ticks -/

theorem fulfil (s : State) (n : Fin 16) (b : Boundary) (p : Stamp) (r : Bool) : ContextOnly n s (s.fulfil n b p r) := by
  unfold State.fulfil
  extract_lets t c
  have h : ContextOnly n s t := modLive s n _
  split
  · exact h
  · exact h.trans (setCtx _ n rfl)
  · exact h.trans (intervalWait _ n _ _)
  · split
    · exact h.trans (totalOpen _ n b r false)
    · exact h.trans (totalOpen _ n b r false)
    · exact h.trans (setCtx _ n rfl)

theorem fulfilNow (s : State) (n : Fin 16) : ContextOnly n s (s.fulfilNow n) := fulfil s n _ _ _

theorem armTime (s : State) (n : Fin 16) : ContextOnly n s (s.armTime n) := ite (fulfilNow s n) (refl n s)

theorem armMessage (s : State) (n : Fin 16) (m : Message) : ContextOnly n s (s.armMessage n m) := ite (fulfil s n _ _ _) (refl n s)

theorem takeMessage (s : State) (n : Fin 16) (m : Message) (r : Role) : ContextOnly n s (s.takeMessage n m r) := by
  unfold State.takeMessage
  split
  · exact frequencyMessage s n m
  · exact intervalMessageA s n m
  · exact refl n s
  · exact refl n s
  · exact refl n s
  · exact intervalMessageB s n m
  · exact totalMessageB s n m
  · exact refl n s
  · exact armMessage s n m

theorem takeNotice (s : State) (n : Fin 16) (v : Notice) (r : Role) : ContextOnly n s (s.takeNotice n v r) := by
  unfold State.takeNotice
  split
  · exact frequencyNotice s n v
  · exact refl n s
  · exact refl n s
  · exact refl n s
  · exact refl n s
  · exact intervalNoticeB s n v
  · exact totalNoticeB s n v
  · exact refl n s
  · exact refl n s

/-- What one step of a fold keeps, the fold keeps. -/
theorem foldl {α : Type} (n : Fin 16) (f : State → α → State) (h : ∀ s a, ContextOnly n s (f s a)) :
    ∀ (l : List α) (s : State), ContextOnly n s (l.foldl f s)
  | [], s => refl n s
  | a :: l, s => (h s a).trans (foldl n f h l (f s a))

theorem applyItem (s : State) (n : Fin 16) (i : BusItem) : ContextOnly n s (s.applyItem n i) := by
  unfold State.applyItem
  refine ite (refl n s) ?_
  split
  · exact foldl n _ (fun s r => takeMessage s n _ r) _ s
  · exact foldl n _ (fun s r => takeNotice s n _ r) _ s

theorem refLoss (s : State) (n : Fin 16) : ContextOnly n s (s.refLoss n) := ite (modLive s n _) (refl n s)

theorem watchExpires (s : State) (n : Fin 16) : ContextOnly n s (s.watchExpires n) := by
  have h := raise s n causeTimeout
  unfold State.watchExpires
  dsimp only
  split
  · exact h
  · exact h.trans (frequencyWatch _ n)
  · exact h.trans (intervalWatch _ n)
  · split
    · exact h.trans (windowWatch _ n)
    · exact h.trans (manualWatch _ n)
    · exact h.trans (manualWatch _ n)

theorem watch (s : State) (n : Fin 16) : ContextOnly n s (s.watch n) := ite (watchExpires s n) (refl n s)

theorem reachContext (s : State) (n : Fin 16) : ContextOnly n s (s.reachContext n) :=
  (((armTime s n).trans (gateExpiryAtLast _ n)).trans (totalExpiry _ n)).trans (watch _ n)

end ContextOnly

end Sys2Proof.Machine
end

