-- ==== Sys2Proof/Laws/Delivery.lean ====
section
/-! SUPPORT. What the delivery of an item comes to for a listed context: the roles it holds on the channel act in turn, and a role of
the wrong state lets the item pass. -/

namespace Sys2Proof.Machine

open Sys2Proof.Safety

/-- The coarse tick of an edge's stamp is its edge tick (R11, R12). -/
theorem tickOfStamp_stampOf (k : Tick) (f : BitVec 12) : tickOfStamp (stampOf k f) = k := by
  apply BitVec.eq_of_toNat_eq
  simp [tickOfStamp, stampOf, stampOfTick, Nat.shiftLeft_eq, Nat.shiftRight_eq_div_pow]
  have := k.isLt
  have := f.isLt
  omega

/-- The roles of a configuration on a channel, in the order A, B, ARM (R68). -/
theorem map_entriesOn (cfg : CtxConfig) (n : Fin 16) (c : Fin 8) :
    (entriesOn cfg n c).map (fun e => e.2) =
      if cfg.kind = .none then []
      else
        (if cfg.channelA = c then [Role.a] else []) ++
        (if holdsChannelB cfg.kind cfg.gateMode = true ∧ cfg.channelB = c then [Role.b] else []) ++
        (if cfg.armMode = .onEdge ∧ cfg.armChannel = c then [Role.arm] else []) := by
  unfold entriesOn CtxConfig.roles
  split
  · rfl
  · by_cases h1 : cfg.channelA = c <;> by_cases h2 : holdsChannelB cfg.kind cfg.gateMode = true <;> by_cases h3 : cfg.channelB = c <;>
      by_cases h4 : cfg.armMode = .onEdge <;> by_cases h5 : cfg.armChannel = c <;> simp [h1, h2, h3, h4, h5]

/-- An item of an edge after the ARM, and where it is a notice of no tick before the fulfilment tick, is not set aside (R80). -/
theorem setsAside_of_after {s : State} {n : Fin 16} {i : BusItem} (h : AfterArm s n i) (hn : i.stamped = none → NotBeforeFulfilment s n i) :
    (s.ctx n).live.setsAside i = false := by
  cases hx : i.stamped with
  | none => simpa [Live.setsAside, AfterArm, NotBeforeFulfilment, hx] using And.intro h (hn hx)
  | some x => simpa [Live.setsAside, AfterArm, hx] using h

/-- An item set aside passes without effect (R80). -/
theorem State.applyItem_of_setsAside {s : State} {n : Fin 16} {i : BusItem} (h : (s.ctx n).live.setsAside i = true) :
    s.applyItem n i = s := by
  simp [State.applyItem, h]

/-- A listed context that may take a message takes it under each role it holds on the channel (R28, R69). -/
theorem State.deliver_message {s : State} {n : Fin 16} {c : Fin 8} {i : BusItem} {x : StampInfo} (h : Arriving s n c i)
    (hc : i.channel = c) (hx : i.stamped = some x) (hl : ListedOn s n c) (ha : AfterArm s n i) :
    s.deliver n c true =
      ((entriesOn (s.ctx n).config n c).map fun e => e.2).foldl (fun t r => t.takeMessage n (i.message x) r) (handed s n c) := by
  rw [← hl]
  have hp : ((handed s n c).ctx n).live.setsAside i = false := setsAside_of_after ha (by simp [hx])
  unfold handed at hp ⊢
  simp [State.deliver, h.1, h.2, hx, State.applyItem, hc, hp]
  rfl

/-- A listed context that may take a notice takes it under each role it holds on the channel (R28, R69). -/
theorem State.deliver_notice {s : State} {n : Fin 16} {c : Fin 8} {i : BusItem} (h : Arriving s n c i)
    (hc : i.channel = c) (hx : i.stamped = none) (hl : ListedOn s n c) (ha : AfterArm s n i)
    (hf : NotBeforeFulfilment s n i) :
    s.deliver n c false =
      ((entriesOn (s.ctx n).config n c).map fun e => e.2).foldl (fun t r => t.takeNotice n i.notice r) (handed s n c) := by
  rw [← hl]
  have hp : ((handed s n c).ctx n).live.setsAside i = false := setsAside_of_after ha fun _ => hf
  unfold handed at hp ⊢
  simp [State.deliver, h.1, h.2, hx, State.applyItem, hc, hp]
  rfl

/-- Only an ARMED context takes its arm edge (R79). -/
theorem State.takeMessage_arm_of_not_armed {s : State} {n : Fin 16} (h : (s.ctx n).state ≠ .armed) (m : Message) :
    s.takeMessage n m .arm = s := by
  simp [State.takeMessage, State.armMessage, h]

/-- What a context does under roles B and ARM follows its first role: outside ARMED the ARM role adds nothing. -/
theorem State.foldl_takeMessage_arm {s : State} {n : Fin 16} (h : (s.ctx n).state ≠ .armed) (m : Message) (p : Prop) [Decidable p] :
    (if p then [Role.arm] else []).foldl (fun t r => t.takeMessage n m r) s = s := by
  split
  · exact State.takeMessage_arm_of_not_armed h m
  · rfl

/-! ### The part after an item has been handed over -/

variable (s : State) (n : Fin 16) (c : Fin 8)

@[simp] theorem handed_rstnLow : (handed s n c).rstnLow = s.rstnLow := rfl
@[simp] theorem handed_clock : (handed s n c).clock = s.clock := rfl
@[simp] theorem handed_channels : (handed s n c).channels = s.channels := rfl
@[simp] theorem handed_engine : (handed s n c).engine = s.engine := rfl
@[simp] theorem handed_contexts : (handed s n c).contexts = s.contexts := rfl
@[simp] theorem handed_listeners : (handed s n c).listeners = s.listeners := rfl
@[simp] theorem handed_quotient : (handed s n c).quotient = s.quotient := rfl
@[simp] theorem handed_attention : (handed s n c).attention = s.attention := rfl
@[simp] theorem handed_port : (handed s n c).port = s.port := rfl
@[simp] theorem handed_ctx (m : Fin 16) : (handed s n c).ctx m = s.ctx m := rfl
@[simp] theorem handed_channel (k : Fin 8) : (handed s n c).channel k = s.channel k := rfl
@[simp] theorem handed_source (k : Fin 20) : (handed s n c).source k = s.source k := rfl
@[simp] theorem handed_gatePending (m : Fin 16) : (handed s n c).gatePending m = s.gatePending m := rfl

end Sys2Proof.Machine
end

