-- ==== Sys2Proof/Laws/Frames.lean ====
section
/-! SUPPORT. Byte fields: how many bytes a field has and which value its bytes spell. -/

namespace Sys2Proof

@[simp] theorem bytesOf_length (n v : Nat) : (bytesOf n v).length = n := by
  induction n with
  | zero => rfl
  | succ n ih => simp [bytesOf, ih]

theorem valueOf_append (l : List Byte) (b : Byte) : valueOf (l ++ [b]) = valueOf l * 256 + b.toNat := by
  simp [valueOf]

/-- The value of a list of bytes begun with an accumulated value. -/
theorem valueOf_foldl (l : List Byte) (a : Nat) :
    l.foldl (fun acc b => acc * 256 + b.toNat) a = a * 256 ^ l.length + valueOf l := by
  induction l generalizing a with
  | nil => simp [valueOf]
  | cons b l ih =>
    simp only [List.foldl_cons, List.length_cons, valueOf]
    rw [ih, ih (0 * 256 + b.toNat)]
    ring

theorem valueOf_cons (b : Byte) (l : List Byte) : valueOf (b :: l) = b.toNat * 256 ^ l.length + valueOf l := by
  have := valueOf_foldl l b.toNat
  simpa [valueOf] using this

/-- The bytes of a value in a field of `n` bytes spell the value modulo 256^n, most significant first (R164). -/
theorem valueOf_bytesOf (n v : Nat) : valueOf (bytesOf n v) = v % 256 ^ n := by
  induction n generalizing v with
  | zero => simp [bytesOf, valueOf, Nat.mod_one]
  | succ n ih =>
    rw [bytesOf, valueOf_cons, ih, bytesOf_length, BitVec.toNat_ofNat, pow_succ 256 n, Nat.mod_mul, add_comm, mul_comm]

/-- A field that holds its value spells it. -/
theorem valueOf_bytesOf_of_lt {n v : Nat} (h : v < 256 ^ n) : valueOf (bytesOf n v) = v := by
  rw [valueOf_bytesOf, Nat.mod_eq_of_lt h]

end Sys2Proof
end

