-- ==== Sys2Proof/Laws/Posting.lean ====
section
/-! SUPPORT. What the operations that end a gate can do, each said once: raising a cause, handing a gate on, posting a result. -/

namespace Sys2Proof.Machine

open Sys2Proof.Safety

/-- An event of one context leaves the other contexts, the other sources and the rest of the part. -/
theorem ContextOnly.onlyContext {n : Fin 16} {s t : State} (h : ContextOnly n s t) : OnlyContext n s t := by
  refine ⟨?_, h.threshold, h.others, h.sources⟩
  cases s
  cases t
  cases h
  simp_all

/-- Raising one cause (R155). -/
theorem State.raise_raised (s : State) (id : Fin 20) (k : Fin 4) : Raised id (causeBit k) s (s.raise id k) := by
  refine ⟨by simp [State.raise], rfl, fun j h => by simp [State.raise, h]⟩

/-- Raising no cause. -/
theorem raised_none (s : State) (id : Fin 20) : Raised id 0 s s := ⟨by simp, rfl, fun _ _ => rfl⟩

/-- Causes raised one after the other are raised together. -/
theorem raised_trans {id : Fin 20} {a b : BitVec 4} {s t u : State} (h : Raised id a s t) (k : Raised id b t u) :
    Raised id (a ||| b) s u := by
  refine ⟨?_, k.2.1.trans h.2.1, fun j hj => (k.2.2 j hj).trans (h.2.2 j hj)⟩
  rw [k.1, h.1]
  simp only [Source.mk.injEq, true_and]
  ext i
  simp only [BitVec.getElem_or, BitVec.getElem_and]
  cases (s.source id).events[i] <;> cases (s.source id).mask[i] <;> cases a[i] <;> cases b[i] <;> rfl

/-- Writing a context's record raises nothing. -/
theorem raised_ofSetCtx {id : Fin 20} {a : BitVec 4} {s t : State} {n : Fin 16} {c : Context} (h : Raised id a (s.setCtx n c) t) :
    Raised id a s t := h

/-- An EMPTY slot is filled and the context joins the tail of the quotient queue (R101). -/
theorem State.handOn_of_empty {s : State} {n : Fin 16} (h : (s.ctx n).slot = none) (g : RawGate) :
    s.handOn n g =
      { s.setCtx n { s.ctx n with slot := some { g with flags := { g.flags with gap := false } } } with
        quotient := { s.quotient with queue := s.quotient.queue ++ [n] } } := by
  simp [State.handOn, h, State.modCtx]

/-- A QUEUED slot is replaced with GAP, and OVERRUN is raised (R102). -/
theorem State.handOn_of_queued {s : State} {n : Fin 16} (h : (s.ctx n).slot ≠ none) (g : RawGate) :
    s.handOn n g =
      (s.setCtx n { s.ctx n with slot := some { g with flags := { g.flags with gap := true } } }).raise (contextSource n)
        causeOverrun := by
  have : (s.ctx n).slot.isSome = true := by
    cases e : (s.ctx n).slot with
    | none => exact absurd e h
    | some _ => rfl
  simp [State.handOn, this, State.modCtx]

/-- Everything a hand-on does to its context: the slot. -/
theorem State.handOn_ctx (s : State) (n : Fin 16) (g : RawGate) :
    (s.handOn n g).ctx n =
      { s.ctx n with slot := some { g with flags := { g.flags with gap := (s.ctx n).slot.isSome } } } := by
  by_cases h : (s.ctx n).slot = none
  · rw [State.handOn_of_empty h, h]
    exact State.ctx_setCtx_self ..
  · rw [State.handOn_of_queued h, Option.isSome_iff_ne_none.mpr h]
    exact State.ctx_setCtx_self ..

/-- A hand-on is what R101 and R102 give. -/
theorem State.handOn_handedOn (s : State) (n : Fin 16) (g : RawGate) : HandedOn n g s (s.handOn n g) := by
  constructor
  · intro h
    refine ⟨by rw [State.handOn_ctx, h]; rfl, by rw [State.handOn_of_empty h], by rw [State.handOn_of_empty h]; rfl⟩
  · intro h
    refine ⟨by rw [State.handOn_ctx, Option.isSome_iff_ne_none.mpr h], by rw [State.handOn_of_queued h]; rfl, ?_⟩
    rw [State.handOn_of_queued h]
    exact raised_ofSetCtx (State.raise_raised _ _ _)

/-- The causes of a posting (R149 steps 2 and 5). -/
theorem State.postingCauses_raised (s : State) (n : Fin 16) (fresh outside : Bool) :
    Raised (contextSource n) ((if fresh then 0b0100#4 else 0) ||| (if outside then 0b0010#4 else 0)) s
      (s.postingCauses n fresh outside) := by
  have h : Raised (contextSource n) (if fresh then 0b0100#4 else 0) s
      (if fresh then s.raise (contextSource n) causeOverrun else s) := by
    split
    · exact State.raise_raised s _ _
    · exact raised_none s _
  unfold State.postingCauses
  dsimp only
  refine raised_trans h ?_
  cases outside
  · exact raised_none _ _
  · exact State.raise_raised _ _ _

theorem State.postingCauses_ctx (s : State) (n m : Fin 16) (a b : Bool) : (s.postingCauses n a b).ctx m = s.ctx m := by
  cases a <;> cases b <;> rfl

theorem State.postingCauses_quotient (s : State) (n : Fin 16) (a b : Bool) : (s.postingCauses n a b).quotient = s.quotient := by
  cases a <;> cases b <;> rfl

/-- What settling does: a SETTLING context with nothing pending becomes IDLE, nothing else changes (R66). -/
theorem State.settleContext_eq (s : State) (n : Fin 16) :
    s.settleContext n =
      s.setCtx n { s.ctx n with
        state := if (s.ctx n).state = .settling ∧ s.gatePending n = false then .idle else (s.ctx n).state } := by
  unfold State.settleContext
  split
  · rfl
  · exact (State.setCtx_ctx ..).symm

/-- The record, the LATE pending and the state after a posting, and what stays of the context (R149). -/
theorem State.post_ctx (s : State) (n : Fin 16) (f : Figures) (seq : BitVec 16) (flags : Flags) (p : Nat) :
    (s.post n f seq flags p).ctx n =
      { s.ctx n with
        record := (s.ctx n).postedRecord f seq flags p
        latePending := false
        state := if (s.ctx n).state = .settling ∧ s.gatePending n = false then .idle else (s.ctx n).state } := by
  unfold State.post
  dsimp only
  rw [State.settleContext_eq, State.ctx_setCtx_self, State.postingCauses_ctx, State.ctx_setCtx_self]
  have e : ∀ q, State.gatePending ((s.setCtx n { s.ctx n with
      record := (s.ctx n).postedRecord f seq flags p, latePending := false }).postingCauses n (s.ctx n).record.fresh q) n =
      s.gatePending n := by
    intro q
    simp only [State.gatePending, State.postingCauses_ctx, State.ctx_setCtx_self, State.unitHolds, State.postingCauses_quotient,
      State.setCtx_quotient]
  rw [e]

/-- A posting is what R149 gives. -/
theorem State.post_posted (s : State) (n : Fin 16) (f : Figures) (seq : BitVec 16) (flags : Flags) (p : Nat) :
    Posted n f seq flags p s (s.post n f seq flags p) := by
  refine ⟨by rw [State.post_ctx]; rfl, by rw [State.post_ctx], ?_⟩
  unfold State.post
  dsimp only
  rw [State.settleContext_eq]
  exact raised_ofSetCtx (State.postingCauses_raised _ _ _ _)

/-- A posting leaves the quotient unit and its queue. -/
theorem State.post_quotient (s : State) (n : Fin 16) (f : Figures) (seq : BitVec 16) (flags : Flags) (p : Nat) :
    (s.post n f seq flags p).quotient = s.quotient := by
  unfold State.post
  dsimp only
  rw [State.settleContext_eq, State.setCtx_quotient, State.postingCauses_quotient]
  rfl

end Sys2Proof.Machine
end

