-- ==== Sys2Proof/Laws/Gates.lean ====
section
/-! SUPPORT. What the closing of a gate, the meeting of an arm condition and the steps of an interval do to their context, each said
once. -/

namespace Sys2Proof.Machine

open Sys2Proof.Safety

/-- The gate pattern's test as the statements spell it (R146). -/
theorem passes_iff (c : Context) : Passes c ↔ c.patternPasses = true := by simp [Passes, Context.patternPasses]

/-- The pattern position after a close as the statements spell it (R146). -/
theorem nextPosition_of_eq {c d : Context} (h : d.position = c.nextPosition) : NextPosition c d := by
  unfold NextPosition
  rw [h]
  unfold Context.nextPosition
  refine ⟨fun e => if_pos e, fun e => ⟨fun l => ?_, fun l => ?_⟩⟩
  · rw [if_neg e, if_pos l]
  · rw [if_neg e, if_neg (by omega)]

/-- The state in which a SINGLE run ends, as the statements spell it (R66). -/
theorem endRun_ctx (s : State) (n : Fin 16) :
    (s.endRun n).ctx n = { s.ctx n with state := endState s n, live := { (s.ctx n).live with deadline := none } } :=
  State.ctx_modCtx_self ..

/-- The slot after a close: the gate handed on where the pattern passes it. -/
theorem ctx_ite_handOn (s : State) (n : Fin 16) (g : RawGate) (p : Bool) :
    (if p then s.handOn n g else s).ctx n =
      { s.ctx n with
        slot := if p then some { g with flags := { g.flags with gap := (s.ctx n).slot.isSome } } else (s.ctx n).slot } := by
  cases p
  · rfl
  · exact State.handOn_ctx ..

/-- Whether a gate is pending after a close. -/
theorem gatePending_ite_handOn (s : State) (n : Fin 16) (g : RawGate) (p : Bool) :
    (if p then s.handOn n g else s).gatePending n = (p || s.gatePending n) := by
  cases p
  · rfl
  · simp [State.gatePending, State.handOn_ctx]

/-! ### FREQUENCY -/

/-- The context after the close of a FREQUENCY gate (R99 to R104). -/
theorem State.frequencyClose_ctx (s : State) (n : Fin 16) (m : Message) :
    (s.frequencyClose n m).ctx n =
      let c := s.ctx n
      let d := { c.countClose with
        slot :=
          if c.patternPasses then some { c.frequencyGate m with flags := { c.closingFlags m with gap := c.slot.isSome } } else c.slot
        live := { c.live with flags := Flags.clear, deadline := none } }
      match c.config.runMode with
      | .single => { d with state := if c.patternPasses || s.gatePending n then .settling else .idle }
      | .continuous =>
        { d with
          state := .gating
          live := { c.live with
            startStamp := m.stamp
            startCount := m.count
            startGeneration := m.generation
            expiryTick := tickOfStamp m.stamp + gateTicks c.config.gateTime
            flags := { Flags.clear with ref := m.unlocked }
            edgeTally := 0
            deadline := none } } := by
  unfold State.frequencyClose
  dsimp only
  cases hr : (s.ctx n).config.runMode
  · simp only
    unfold State.endRun
    rw [State.ctx_modCtx_self, ctx_ite_handOn, State.ctx_modCtx_self, gatePending_ite_handOn]
    cases hp : (s.ctx n).patternPasses <;>
      simp [Context.countClose, Context.frequencyGate, State.gatePending, State.unitHolds]
  · simp only
    unfold State.frequencyStart
    rw [State.ctx_modCtx_self, ctx_ite_handOn, State.ctx_modCtx_self]
    cases hp : (s.ctx n).patternPasses <;> simp [Context.countClose, Context.frequencyGate]

/-- A hand-on seen from and to parts with the same slot, quotient queue and attention controller. -/
theorem handedOn_congr {n : Fin 16} {g : RawGate} {s t u v : State} (h : HandedOn n g s t) (h1 : (u.ctx n).slot = (s.ctx n).slot)
    (h2 : u.quotient.queue = s.quotient.queue) (h3 : u.attention = s.attention) (k1 : (v.ctx n).slot = (t.ctx n).slot)
    (k2 : v.quotient.queue = t.quotient.queue) (k3 : v.attention = t.attention) : HandedOn n g u v := by
  unfold HandedOn Raised State.source at *
  rw [h1, h2, h3, k1, k2, k3]
  exact h

/-- A passed FREQUENCY gate is handed on (R101, R102). -/
theorem State.frequencyClose_passed {s : State} {n : Fin 16} (h : (s.ctx n).patternPasses = true) (m : Message) :
    HandedOn n ((s.ctx n).frequencyGate m) s (s.frequencyClose n m) := by
  refine handedOn_congr (State.handOn_handedOn
    (s.modCtx n fun c => { c.countClose with live := { c.live with flags := Flags.clear, deadline := none } }) n
    ((s.ctx n).frequencyGate m)) ?_ rfl rfl ?_ ?_ ?_
  · simp [Context.countClose]
  all_goals
    unfold State.frequencyClose
    dsimp only
    rw [if_pos h]
    cases (s.ctx n).config.runMode <;> first | rfl | (simp [State.endRun, State.frequencyStart])

/-- A skipped FREQUENCY gate leaves the slot, the queue and the attention controller (R100). -/
theorem State.frequencyClose_skipped {s : State} {n : Fin 16} (h : (s.ctx n).patternPasses = false) (m : Message) :
    (s.frequencyClose n m).quotient = s.quotient ∧ (s.frequencyClose n m).attention = s.attention := by
  unfold State.frequencyClose
  dsimp only
  rw [h]
  cases (s.ctx n).config.runMode <;> exact ⟨rfl, rfl⟩

/-! ### TOTALIZE -/

/-- The context after the opening of a TOTALIZE gate (R129, R130, R133). -/
theorem State.totalOpen_ctx (s : State) (n : Fin 16) (b : Boundary) (ref blind : Bool) :
    (s.totalOpen n b ref blind).ctx n =
      { s.ctx n with
        state := .gating
        live := { (s.ctx n).live with
          openTick := b.tick
          openCount := s.boundaryCount n b
          flags := { Flags.clear with ref := ref, blind := blind }
          expiryTick := (s.ctx n).openExpiry b.tick
          deadline := if (s.ctx n).config.gateMode = .time then none else some (s.deadlineFrom n b.tick)
          testFulfilment := false } } := State.ctx_modCtx_self ..

/-- Whether the addition of a gate's count clamps, as the statements spell it (R137). -/
theorem totalClamps_eq (m : TotalMode) (t e : EdgeCount) :
    totalClamps m t e = decide (m = .saturate ∧ 2 ^ 48 ≤ t.toNat + e.toNat) := by cases m <;> simp [totalClamps]

theorem addTotal_of_clamps {m : TotalMode} {t e : EdgeCount} (h : m = .saturate ∧ 2 ^ 48 ≤ t.toNat + e.toNat) :
    addTotal m t e = BitVec.allOnes 48 := by
  obtain ⟨rfl, h⟩ := h
  simp only [addTotal, if_pos h]

theorem addTotal_of_not_clamps {m : TotalMode} {t e : EdgeCount} (h : ¬(m = .saturate ∧ 2 ^ 48 ≤ t.toNat + e.toNat)) :
    addTotal m t e = t + e := by
  cases m
  · simp only [true_and] at h
    simp only [addTotal, if_neg h]
  · rfl

/-- The part once the close of a TOTALIZE gate has counted it and posted it, before the run goes on (R136, R146). -/
def State.totalCounted (s : State) (n : Fin 16) (b : Boundary) (flags : Flags) : State :=
  let c := s.ctx n
  let e := s.boundaryCount n b - c.live.openCount
  let total := addTotal c.config.totalMode c.total e
  let t := s.modCtx n fun c =>
    { c.countClose with total := total, live := { c.live with flags := Flags.clear, deadline := none } }
  if c.patternPasses then
    t.post n (.totalize e total c.live.openTick b.tick) (c.seq + 1) { flags with sat := totalClamps c.config.totalMode c.total e } e.toNat
  else t

theorem State.totalClose_eq (s : State) (n : Fin 16) (b : Boundary) (flags : Flags) :
    s.totalClose n b flags = (s.totalCounted n b flags).totalContinue n b := rfl

/-- The context of a counted TOTALIZE gate that was open (R136, R146). -/
theorem State.totalCounted_ctx {s : State} {n : Fin 16} (h : (s.ctx n).state ≠ .settling) (b : Boundary) (flags : Flags) :
    (s.totalCounted n b flags).ctx n =
      let c := s.ctx n
      let e := s.boundaryCount n b - c.live.openCount
      let total := addTotal c.config.totalMode c.total e
      { c.countClose with
        total := total
        live := { c.live with flags := Flags.clear, deadline := none }
        record :=
          if c.patternPasses then
            c.postedRecord (.totalize e total c.live.openTick b.tick) (c.seq + 1)
              { flags with sat := totalClamps c.config.totalMode c.total e } e.toNat
          else c.record
        latePending := if c.patternPasses then false else c.latePending } := by
  unfold State.totalCounted
  dsimp only
  cases hp : (s.ctx n).patternPasses
  · simp [Context.countClose]
  · simp [State.post_ctx, Context.countClose, Context.postedRecord, Context.postedFlags, h]

theorem State.totalCounted_gatePending (s : State) (n : Fin 16) (b : Boundary) (flags : Flags) (h : (s.ctx n).state ≠ .settling) :
    (s.totalCounted n b flags).gatePending n = s.gatePending n := by
  have e : (s.totalCounted n b flags).quotient = s.quotient := by
    unfold State.totalCounted
    dsimp only
    cases (s.ctx n).patternPasses
    · rfl
    · exact State.post_quotient ..
  unfold State.gatePending State.unitHolds
  rw [State.totalCounted_ctx h, e]
  rfl

/-- A posting seen from and to parts with the same figures of the context and the same attention controller. -/
theorem posted_congr {n : Fin 16} {f : Figures} {q : BitVec 16} {fl : Flags} {p : Nat} {s t u v : State} (h : Posted n f q fl p s t)
    (h1 : (u.ctx n).config = (s.ctx n).config) (h2 : (u.ctx n).record = (s.ctx n).record)
    (h3 : (u.ctx n).latePending = (s.ctx n).latePending) (h4 : u.attention = s.attention) (k1 : (v.ctx n).record = (t.ctx n).record)
    (k2 : (v.ctx n).latePending = (t.ctx n).latePending) (k3 : v.attention = t.attention) : Posted n f q fl p u v := by
  unfold Posted Raised State.source at *
  dsimp only at *
  rw [h1, h2, h3, h4, k1, k2, k3]
  exact h

theorem State.totalCounted_posted {s : State} {n : Fin 16} (h : (s.ctx n).patternPasses = true) (b : Boundary) (flags : Flags) :
    let c := s.ctx n
    let e := s.boundaryCount n b - c.live.openCount
    let total := addTotal c.config.totalMode c.total e
    Posted n (.totalize e total c.live.openTick b.tick) (c.seq + 1)
      { flags with sat := totalClamps c.config.totalMode c.total e } e.toNat s (s.totalCounted n b flags) := by
  unfold State.totalCounted
  dsimp only
  rw [if_pos h]
  refine posted_congr (State.post_posted (s.modCtx n _) ..) ?_ ?_ ?_ ?_ rfl rfl rfl
  all_goals first | rfl | (rw [State.ctx_modCtx_self]; rfl)

/-- Counting and posting a gate is an event of one context. -/
theorem State.totalCounted_only (s : State) (n : Fin 16) (b : Boundary) (flags : Flags) :
    ContextOnly n s (s.totalCounted n b flags) := by
  have h : ContextOnly n s (s.modCtx n fun c => { c.countClose with
      total := addTotal (s.ctx n).config.totalMode (s.ctx n).total (s.boundaryCount n b - (s.ctx n).live.openCount)
      live := { c.live with flags := Flags.clear, deadline := none } }) := ContextOnly.modCtx s n rfl
  unfold State.totalCounted
  exact ContextOnly.ite (h.trans (ContextOnly.post _ n _ _ _ _)) h

/-- Going on after a close keeps everything of the context but its state and live figures, and touches nothing else. -/
theorem State.totalContinue_ctx (s : State) (n : Fin 16) (b : Boundary) :
    (s.totalContinue n b).ctx n =
      { s.ctx n with state := ((s.totalContinue n b).ctx n).state, live := ((s.totalContinue n b).ctx n).live } := by
  unfold State.totalContinue
  cases h : (s.ctx n).config.runMode <;> cases k : (s.ctx n).config.gateMode <;> simp [h, k, State.endRun, State.totalOpen]

theorem State.totalContinue_attention (s : State) (n : Fin 16) (b : Boundary) :
    (s.totalContinue n b).attention = s.attention ∧ (s.totalContinue n b).quotient = s.quotient := by
  unfold State.totalContinue
  cases h : (s.ctx n).config.runMode <;> cases k : (s.ctx n).config.gateMode <;> simp [h, k, State.endRun, State.totalOpen]

/-- The close of an open TOTALIZE gate is what R136, R137 and R146 give. -/
theorem State.totalClose_closed {s : State} {n : Fin 16} (h : (s.ctx n).state ≠ .settling) (b : Boundary) (flags : Flags) :
    TotalGateClosed n b flags s (s.totalClose n b flags) ∧ NextPosition (s.ctx n) ((s.totalClose n b flags).ctx n) := by
  have hc := State.totalCounted_ctx h b flags
  have hg := State.totalCounted_gatePending s n b flags h
  have hch := State.totalCounted_only s n b flags
  have hq : (s.totalCounted n b flags).quotient = s.quotient := by
    unfold State.totalCounted
    dsimp only
    cases (s.ctx n).patternPasses
    · rfl
    · exact State.post_quotient ..
  have hx := State.totalContinue_ctx (s.totalCounted n b flags) n b
  have ha := State.totalContinue_attention (s.totalCounted n b flags) n b
  have ho : OnlyContext n s (s.totalClose n b flags) := (ContextOnly.totalClose s n b flags).onlyContext
  have hcfg : ((s.totalCounted n b flags).ctx n).config = (s.ctx n).config := hch.config
  rw [State.totalClose_eq] at *
  refine ⟨⟨ho, ha.2.trans hq, ?_, ?_, ?_, ?_, ?_, ?_, ?_, ?_, ?_, ?_, ?_, ?_⟩, ?_⟩
  · rw [hx, hc]; rfl
  · rw [hx, hc]; rfl
  · rw [hx, hc]; rfl
  · intro k; rw [hx, hc]; exact addTotal_of_clamps k
  · intro k; rw [hx, hc]; exact addTotal_of_not_clamps k
  · intro k
    have hp := State.totalCounted_posted (passes_iff _ |>.mp k) b flags
    dsimp only at hp
    rw [totalClamps_eq] at hp
    have e1 : (((s.totalCounted n b flags).totalContinue n b).ctx n).total =
        addTotal (s.ctx n).config.totalMode (s.ctx n).total (s.boundaryCount n b - (s.ctx n).live.openCount) := by
      rw [hx, hc]
    rw [e1]
    exact posted_congr hp rfl rfl rfl rfl (by rw [hx]) (by rw [hx]) ha.1
  · intro k
    have k' : (s.ctx n).patternPasses = false := by
      rw [passes_iff] at k
      simpa using k
    refine ⟨?_, ?_, ?_⟩
    · rw [hx, hc]; simp [k']
    · rw [hx, hc]; simp [k']
    · rw [ha.1]
      unfold State.totalCounted
      simp [k']
  · intro k
    unfold State.totalContinue
    dsimp only
    rw [hcfg, k]
    dsimp only
    rw [endRun_ctx, hc]
    exact ⟨by unfold endState; rw [hg], rfl, rfl⟩
  · intro k k2
    unfold State.totalContinue
    dsimp only
    rw [hcfg, k, k2]
    dsimp only
    rw [State.ctx_setCtx_self, hc]
    refine ⟨rfl, ?_, rfl⟩
    simp only [State.deadlineFrom, hcfg]
    rfl
  · intro k k2
    have : (s.totalCounted n b flags).totalContinue n b =
        (s.totalCounted n b flags).totalOpen n b (!(s.totalCounted n b flags).locked) false := by
      unfold State.totalContinue
      dsimp only
      rw [hcfg, k]
      cases e : (s.ctx n).config.gateMode
      · rfl
      · exact absurd e k2
      · rfl
    rw [this, State.totalOpen_ctx]
    refine ⟨rfl, rfl, ?_, ?_⟩
    · simp only [State.boundaryCount, hcfg, State.channel, hch.channels]
    · simp [State.locked, hch.clock, Flags.clear]
  · intro k k2
    have : (s.totalCounted n b flags).totalContinue n b =
        (s.totalCounted n b flags).totalOpen n b (!(s.totalCounted n b flags).locked) false := by
      unfold State.totalContinue
      dsimp only
      rw [hcfg, k, k2]
    rw [this, State.totalOpen_ctx]
    simp only [Context.openExpiry, hcfg, k2, if_true]
    exact ⟨rfl, trivial⟩
  · intro k k2
    have : (s.totalCounted n b flags).totalContinue n b =
        (s.totalCounted n b flags).totalOpen n b (!(s.totalCounted n b flags).locked) false := by
      unfold State.totalContinue
      dsimp only
      rw [hcfg, k, k2]
    rw [this, State.totalOpen_ctx]
    simp only [hcfg, k2, State.deadlineFrom, reduceCtorEq, if_false]
    rfl
  · apply nextPosition_of_eq
    rw [hx, hc]
    rfl

/-! ### Arm fulfilment -/

/-- The arm condition met is what R80 gives. -/
theorem State.fulfil_fulfilled (s : State) (n : Fin 16) (b : Boundary) (stamp : Stamp) (ref : Bool) :
    Fulfilled n b stamp ref s (s.fulfil n b stamp ref) := by
  have ho := (ContextOnly.fulfil s n b stamp ref).onlyContext
  unfold Fulfilled
  dsimp only
  refine ⟨ho, ?_⟩
  unfold State.fulfil
  dsimp only
  rw [State.ctx_modLive_self]
  cases hk : (s.ctx n).config.kind <;> dsimp only <;> try cases hg : (s.ctx n).config.gateMode <;> dsimp only
  all_goals
    simp [State.modLive, State.modCtx, State.intervalWait, State.totalOpen, State.deadlineFrom, Context.openExpiry,
      State.boundaryCount, watchLength, watchTicks, gateLength, gateTicks, Flags.clear, Config.ticksPerMillisecond,
      Config.ticksPerMicrosecond]
  all_goals simp [hg]

/-! ### INTERVAL -/

/-- A start edge recorded (R113, R114). -/
theorem State.intervalRecordStart_eq (s : State) (n : Fin 16) (m : HeldStop) :
    ∃ l, s.intervalRecordStart n m = s.setCtx n { s.ctx n with state := .gating, live := l } ∧
      l.startStamp = m.stamp ∧ l.deadline = some (tickOfStamp m.stamp + watchTicks (s.ctx n).config.watch) ∧ l.heldStop = none ∧
      l.heldNotice = none ∧ l.batchOpen = true ∧
      ((s.ctx n).live.batchOpen = false →
        l.firstStart = m.stamp ∧ l.batchSize = (s.ctx n).config.averaging ∧ l.batchSum = 0 ∧ l.batchCount = 0 ∧ l.batchMin = 0 ∧
        l.batchMax = 0 ∧ l.batchGenA = some m.generation ∧ l.batchGenB = none ∧ l.flags = { Flags.clear with ref := m.unlocked }) ∧
      ((s.ctx n).live.batchOpen = true →
        l.firstStart = (s.ctx n).live.firstStart ∧ l.batchSize = (s.ctx n).live.batchSize ∧
        l.batchSum = (s.ctx n).live.batchSum ∧ l.batchCount = (s.ctx n).live.batchCount ∧
        l.batchMin = (s.ctx n).live.batchMin ∧ l.batchMax = (s.ctx n).live.batchMax ∧
        l.batchGenA = some ((s.ctx n).live.batchGenA.getD m.generation) ∧ l.batchGenB = (s.ctx n).live.batchGenB ∧
        l.flags = { (s.ctx n).live.flags with
          ref := (s.ctx n).live.flags.ref || m.unlocked
          calSwap := (s.ctx n).live.flags.calSwap || swapped (s.ctx n).live.batchGenA m.generation }) := by
  refine ⟨_, rfl, ?_⟩
  cases hb : (s.ctx n).live.batchOpen <;>
    simp [hb, Live.useGenA, Live.openBatch, State.deadlineFrom, Flags.clear, swapped]

/-- The wait for a start edge entered (R111). -/
theorem State.intervalWait_eq (s : State) (n : Fin 16) (floor : Stamp) (entry : Tick) :
    s.intervalWait n floor entry =
      s.setCtx n { s.ctx n with
        state := .starting
        live := { (s.ctx n).live with
          heldStop := none
          heldNotice := none
          floor := floor
          entryTick := entry
          deadline := some (entry + watchTicks (s.ctx n).config.watch) } } := rfl

/-- The generation test as the statements spell it (R120). -/
theorem swapped_eq (g : Option Byte) (x : Byte) : swapped g x = g.any fun y => decide (y ≠ x) := by cases g <;> rfl

end Sys2Proof.Machine
end

