-- ==== Sys2Proof/Laws/PerInstr.lean ====
section
/-! SUPPORT. The per-command family FrameBytes: the frame that carries a host command is its code and exactly the parameter bytes that
the frame table gives the code (section 10.7); an event has no frame. -/

namespace Sys2Proof.Laws

/-- A frame whose bytes are written out has the length the table gives. -/
theorem frame_length {bytes : List Byte} {code : Byte} {rest : List Byte} {c : Byte} {p : List Byte}
    (h : some bytes = some (code :: rest)) (e : bytes = c :: p) (l : p.length = (paramCount c).getD 0 := by
      first | rfl | simp [paramCount, configBlockBytes, modifyBlockBytes]) : rest.length = (paramCount code).getD 0 := by
  obtain ⟨rfl, rfl⟩ : c = code ∧ p = rest := by simpa [e] using h
  exact l

end Sys2Proof.Laws

namespace Sys2Proof.Laws.FrameBytes

/-- The bytes of a well-formed command's frame are its code followed by as many bytes as the frame table gives the code. -/
def Statement (i : Instr) : Prop :=
  i.wellFormed = true → ∀ code rest, encodeFrame i = some (code :: rest) → rest.length = (paramCount code).getD 0

theorem noOperation : Statement .noOperation := fun _ _ _ h => frame_length h rfl

theorem readDeviceStatus : Statement .readDeviceStatus := fun _ _ _ h => frame_length h rfl

theorem readIdentity : Statement .readIdentity := fun _ _ _ h => frame_length h rfl

theorem softReset : Statement .softReset := fun _ _ _ h => frame_length h rfl

theorem readTimescale : Statement .readTimescale := fun _ _ _ h => frame_length h rfl

theorem loadTimescale (value : Tick) : Statement (.loadTimescale value) := fun _ _ _ h => frame_length h rfl

theorem setSync (mode : Byte) (preset : Tick) : Statement (.setSync mode preset) := fun _ _ _ h => frame_length h rfl

theorem configureChannel (channel enable polarity : Byte) (holdoff : BitVec 16) : Statement (.configureChannel channel enable polarity holdoff) :=
  fun _ _ _ h => frame_length h rfl

theorem readChannel (channel : Byte) : Statement (.readChannel channel) := fun _ _ _ h => frame_length h rfl

theorem calibrate (mask kind : Byte) : Statement (.calibrate mask kind) := fun _ _ _ h => frame_length h rfl

theorem abortCalibration (mask : Byte) : Statement (.abortCalibration mask) := fun _ _ _ h => frame_length h rfl

theorem readCalibration (channel : Byte) : Statement (.readCalibration channel) := fun _ _ _ h => frame_length h rfl

theorem readTable (channel start : Byte) : Statement (.readTable channel start) := fun _ _ _ h => frame_length h rfl

theorem setDriftLimit (limit : BitVec 16) : Statement (.setDriftLimit limit) := fun _ _ _ h => frame_length h rfl

theorem defineContext (context : Byte) (block : ConfigBlock) : Statement (.defineContext context block) :=
  fun _ _ _ h => frame_length h rfl

theorem modifyContext (context : Byte) (selection : BitVec 16) (values : ModifyBlock) : Statement (.modifyContext context selection values) :=
  fun _ _ _ h => frame_length h rfl

theorem arm (context : Byte) (armTime : Tick) : Statement (.arm context armTime) := fun _ _ _ h => frame_length h rfl

theorem abort (context : Byte) : Statement (.abort context) := fun _ _ _ h => frame_length h rfl

theorem closeGate (context : Byte) : Statement (.closeGate context) := fun _ _ _ h => frame_length h rfl

theorem retire (context : Byte) : Statement (.retire context) := fun _ _ _ h => frame_length h rfl

theorem readResult (context : Byte) : Statement (.readResult context) := fun _ _ _ h => frame_length h rfl

theorem readLive (context : Byte) : Statement (.readLive context) := fun _ _ _ h => frame_length h rfl

theorem readContext (context : Byte) : Statement (.readContext context) := fun _ _ _ h => frame_length h rfl

theorem setPriority (source priority mask : Byte) : Statement (.setPriority source priority mask) :=
  fun _ _ _ h => frame_length h rfl

theorem setThreshold (threshold : Byte) : Statement (.setThreshold threshold) := fun _ _ _ h => frame_length h rfl

theorem claim : Statement .claim := fun _ _ _ h => frame_length h rfl

theorem unknownCommand (code : Byte) : Statement (.unknownCommand code) := by
  intro hw code' rest h
  obtain ⟨rfl, rfl⟩ : code = code' ∧ [] = rest := by simpa [encodeFrame] using h
  have hn : paramCount code = none := by simpa [Instr.wellFormed] using hw
  simp [hn]

theorem frameStart : Statement .frameStart := fun _ _ _ h => nomatch h

theorem frameDiscard (sckEdges : Nat) : Statement (.frameDiscard sckEdges) := fun _ _ _ h => nomatch h

theorem frameEnd : Statement .frameEnd := fun _ _ _ h => nomatch h

theorem resultRecordSnapshot : Statement .resultRecordSnapshot := fun _ _ _ h => nomatch h

theorem powerOnReset : Statement .powerOnReset := fun _ _ _ h => nomatch h

theorem resetRelease : Statement .resetRelease := fun _ _ _ h => nomatch h

theorem coarseTick : Statement .coarseTick := fun _ _ _ h => nomatch h

theorem timescaleWrap : Statement .timescaleWrap := fun _ _ _ h => nomatch h

theorem syncEdge : Statement .syncEdge := fun _ _ _ h => nomatch h

theorem lockAchieved : Statement .lockAchieved := fun _ _ _ h => nomatch h

theorem lockLost : Statement .lockLost := fun _ _ _ h => nomatch h

theorem referenceLossNotice (context : Fin 16) : Statement (.referenceLossNotice context) := fun _ _ _ h => nomatch h

theorem referenceSearchTimeout : Statement .referenceSearchTimeout := fun _ _ _ h => nomatch h

theorem inputEdge (channel : Fin 8) (sense : EdgeSense) (raw : Byte) (before : BitVec 12) : Statement (.inputEdge channel sense raw before) :=
  fun _ _ _ h => nomatch h

theorem stampedEdgeMessage (context : Fin 16) (channel : Fin 8) : Statement (.stampedEdgeMessage context channel) :=
  fun _ _ _ h => nomatch h

theorem unstampedEdgeNotice (context : Fin 16) (channel : Fin 8) : Statement (.unstampedEdgeNotice context channel) :=
  fun _ _ _ h => nomatch h

theorem armTimeReached (context : Fin 16) : Statement (.armTimeReached context) := fun _ _ _ h => nomatch h

theorem gateTimeExpiry (context : Fin 16) : Statement (.gateTimeExpiry context) := fun _ _ _ h => nomatch h

theorem totalizeTimeExpiry (context : Fin 16) : Statement (.totalizeTimeExpiry context) := fun _ _ _ h => nomatch h

theorem watchExpiry (context : Fin 16) : Statement (.watchExpiry context) := fun _ _ _ h => nomatch h

theorem quotientTake : Statement .quotientTake := fun _ _ _ h => nomatch h

theorem quotientComplete : Statement .quotientComplete := fun _ _ _ h => nomatch h

theorem calibrationStart : Statement .calibrationStart := fun _ _ _ h => nomatch h

theorem ringOscillatorHit (raw : Byte) : Statement (.ringOscillatorHit raw) := fun _ _ _ h => nomatch h

theorem longCalibrationComplete : Statement .longCalibrationComplete := fun _ _ _ h => nomatch h

theorem shortCalibrationComplete : Statement .shortCalibrationComplete := fun _ _ _ h => nomatch h

theorem shortCalibrationTimeout : Statement .shortCalibrationTimeout := fun _ _ _ h => nomatch h

end Sys2Proof.Laws.FrameBytes
end

