-- ==== Sys2Proof/Laws/Port.lean ====
section
/-! SUPPORT. What the execution of a host command is in an open frame, and what its index operand names: cited in place of unfolding the
port. -/

namespace Sys2Proof.Machine

open Sys2Proof.Safety

/-- A code is a refusal exactly from 0x10 upward (R168). -/
theorem ResultCode.isRefusal_eq (c : ResultCode) : c.isRefusal = decide (0x10 ≤ c.code.toNat) := by cases c <;> rfl

/-- In an open frame a host command runs on the part as it stands and is answered (R165). -/
theorem State.runCommand_of_inFrame {s : State} (h : InFrame s) (p : Nat) (run : State → Answer) :
    s.runCommand p run = answered p (run s).state (run s).code (run s).response (run s).burst := by
  simp only [State.runCommand_of_high h.1 (by rw [h.2]; decide), State.openFrame_of_opened h.2, Answer.sent, answered, ResultCode.isRefusal_eq]

/-- A well-formed host command is one run of the port, after its parameter bytes (R164, R165). -/
theorem exec_hostCommand {c : Instr} {bytes : List Byte} (hw : c.wellFormed = true) (he : encodeFrame c = some bytes) (s : State) :
    ∃ run : State → Answer, exec c s = .next (s.runCommand (bytes.length - 1) run) := by
  cases c <;> simp only [encodeFrame, Option.some.injEq, reduceCtorEq] at he <;> subst he <;> first | exact ⟨_, rfl⟩ | skip
  simp only [Instr.wellFormed] at hw
  exact ⟨fun t => .refuse t .unknown, by simp [exec, execUnknownCommand] at hw ⊢; simp [hw]⟩

/-- A byte that numbers an object names it. -/
theorem indexOf_of_eq {m : Nat} {k : Byte} {n : Fin m} (h : k.toNat = n.val) : indexOf m k = some n := by simp [indexOf, h]

/-- A byte at or above the bound names no object (R168 RANGE). -/
theorem indexOf_of_le {m : Nat} {k : Byte} (h : m ≤ k.toNat) : indexOf m k = none := by simp [indexOf, h]

/-- A context is active in the sense of R65 exactly in its four states. -/
theorem active_iff (s : State) (n : Fin 16) : Active s n ↔ (s.ctx n).state.active = true := by
  unfold Active
  cases (s.ctx n).state <;> simp [CtxState.active]

/-- Some context is active exactly when R4's test finds one. -/
theorem anyActive_iff (s : State) : s.anyActive = true ↔ ∃ n, Active s n := by
  simp only [State.anyActive, List.any_eq_true, Vector.mem_toList_iff, Vector.mem_iff_getElem, active_iff, State.ctx]
  constructor
  · rintro ⟨c, ⟨i, hi, rfl⟩, h⟩
    exact ⟨⟨i, hi⟩, h⟩
  · rintro ⟨n, h⟩
    exact ⟨_, ⟨n.val, n.isLt, rfl⟩, h⟩

end Sys2Proof.Machine
end

