-- ==== Sys2Proof/Laws/Tick.lean ====
section
/-! SUPPORT. What the end of a tick can reach, said once: the overdue deliveries and the events due at the present tick change contexts,
their sources and the quotient queue, may end a short calibration and may end the reference search; nothing else. -/

namespace Sys2Proof.Machine

/-- `t` differs from `s` at most in the contexts but for their configurations, in the causes of the context and calibration sources, in
the quotient queue, in the edge bus, in the calibration that runs, in the calibration queue and in the reference search. -/
structure TickOnly (s t : State) : Prop where
  rstnLow : t.rstnLow = s.rstnLow
  timescale : t.clock.timescale = s.clock.timescale
  elapsed : t.clock.elapsed = s.clock.elapsed
  monitor : t.clock.monitor = s.clock.monitor
  syncMode : t.clock.syncMode = s.clock.syncMode
  preset : t.clock.preset = s.clock.preset
  channels : t.channels = s.channels
  tables : t.engine.tables = s.engine.tables
  generations : t.engine.generations = s.engine.generations
  driftLimit : t.engine.driftLimit = s.engine.driftLimit
  init : t.engine.init = s.engine.init
  listeners : t.listeners = s.listeners
  lossNotices : t.lossNotices = s.lossNotices
  port : t.port = s.port
  pending : t.pending = s.pending
  work : t.quotient.work = s.quotient.work
  threshold : t.attention.threshold = s.attention.threshold
  config : ∀ n, (t.ctx n).config = (s.ctx n).config
  sources : ∀ id : Fin 20, 16 ≤ id.val → id ≠ sourceCalibration → t.source id = s.source id
  priority : ∀ id, (t.source id).priority = (s.source id).priority
  mask : ∀ id, (t.source id).mask = (s.source id).mask

namespace TickOnly

variable {s t u : State}

theorem refl (s : State) : TickOnly s s :=
  ⟨rfl, rfl, rfl, rfl, rfl, rfl, rfl, rfl, rfl, rfl, rfl, rfl, rfl, rfl, rfl, rfl, rfl, fun _ => rfl, fun _ _ _ => rfl, fun _ => rfl,
    fun _ => rfl⟩

theorem trans (a : TickOnly s t) (b : TickOnly t u) : TickOnly s u where
  rstnLow := b.rstnLow.trans a.rstnLow
  timescale := b.timescale.trans a.timescale
  elapsed := b.elapsed.trans a.elapsed
  monitor := b.monitor.trans a.monitor
  syncMode := b.syncMode.trans a.syncMode
  preset := b.preset.trans a.preset
  channels := b.channels.trans a.channels
  tables := b.tables.trans a.tables
  generations := b.generations.trans a.generations
  driftLimit := b.driftLimit.trans a.driftLimit
  init := b.init.trans a.init
  listeners := b.listeners.trans a.listeners
  lossNotices := b.lossNotices.trans a.lossNotices
  port := b.port.trans a.port
  pending := b.pending.trans a.pending
  work := b.work.trans a.work
  threshold := b.threshold.trans a.threshold
  config n := (b.config n).trans (a.config n)
  sources id h h' := (b.sources id h h').trans (a.sources id h h')
  priority id := (b.priority id).trans (a.priority id)
  mask id := (b.mask id).trans (a.mask id)

/-- An event of one context is such a change. -/
theorem ofContext {n : Fin 16} (h : ContextOnly n s t) : TickOnly s t where
  rstnLow := h.rstnLow
  timescale := by rw [h.clock]
  elapsed := by rw [h.clock]
  monitor := by rw [h.clock]
  syncMode := by rw [h.clock]
  preset := by rw [h.clock]
  channels := h.channels
  tables := by rw [h.engine]
  generations := by rw [h.engine]
  driftLimit := by rw [h.engine]
  init := by rw [h.engine]
  listeners := h.listeners
  lossNotices := h.lossNotices
  port := h.port
  pending := h.pending
  work := h.work
  threshold := h.threshold
  config m := by
    by_cases e : m = n
    · rw [e, h.config]
    · rw [h.others m e]
  sources id hid _ := h.sources id fun e => by
    have := n.isLt
    rw [e] at hid
    simp only [contextSource] at hid
    omega
  priority id := by
    by_cases e : id = contextSource n
    · rw [e, h.priority]
    · rw [h.sources id e]
  mask id := by
    by_cases e : id = contextSource n
    · rw [e, h.mask]
    · rw [h.sources id e]

/-- What one step of a fold keeps, the fold keeps. -/
theorem foldl {α : Type} (f : State → α → State) (h : ∀ s a, TickOnly s (f s a)) : ∀ (l : List α) (s : State), TickOnly s (l.foldl f s)
  | [], s => refl s
  | a :: l, s => (h s a).trans (foldl f h l (f s a))

theorem bus (s : State) (b : List BusItem) : TickOnly s { s with bus := b } :=
  ⟨rfl, rfl, rfl, rfl, rfl, rfl, rfl, rfl, rfl, rfl, rfl, rfl, rfl, rfl, rfl, rfl, rfl, fun _ => rfl, fun _ _ _ => rfl, fun _ => rfl,
    fun _ => rfl⟩

/-- Raising a cause of the calibration source. -/
theorem raiseCalibration (s : State) (k : Fin 4) : TickOnly s (s.raise sourceCalibration k) where
  rstnLow := rfl
  timescale := rfl
  elapsed := rfl
  monitor := rfl
  syncMode := rfl
  preset := rfl
  channels := rfl
  tables := rfl
  generations := rfl
  driftLimit := rfl
  init := rfl
  listeners := rfl
  lossNotices := rfl
  port := rfl
  pending := rfl
  work := rfl
  threshold := rfl
  config _ := rfl
  sources id _ h := by simp [State.raise, h]
  priority id := by
    by_cases e : id = sourceCalibration
    · simp [State.raise, e]
    · simp [State.raise, e]
  mask id := by
    by_cases e : id = sourceCalibration
    · simp [State.raise, e]
    · simp [State.raise, e]

/-- An engine with the same tables, generations, drift limit and INIT. -/
theorem setEngine (s : State) {e : Engine} (h1 : e.tables = s.engine.tables) (h2 : e.generations = s.engine.generations)
    (h3 : e.driftLimit = s.engine.driftLimit) (h4 : e.init = s.engine.init) : TickOnly s (s.setEngine e) :=
  ⟨rfl, rfl, rfl, rfl, rfl, rfl, rfl, h1, h2, h3, h4, rfl, rfl, rfl, rfl, rfl, rfl, fun _ => rfl, fun _ _ _ => rfl, fun _ => rfl,
    fun _ => rfl⟩

theorem deliver (s : State) (n : Fin 16) (c : Fin 8) (b : Bool) : TickOnly s (s.deliver n c b) := by
  unfold State.deliver
  split
  · exact refl s
  · split
    · exact (bus s _).trans (ofContext (ContextOnly.applyItem _ n _))
    · exact refl s

theorem deliverOverdue (s : State) : TickOnly s s.deliverOverdue :=
  (bus s _).trans (foldl _ (fun s i => foldl _ (fun s n => ofContext (ContextOnly.applyItem s n i)) _ s) _ _)

theorem shortTimeout (s : State) : TickOnly s s.shortTimeout := by
  unfold State.shortTimeout
  split
  · exact refl s
  · split
    · refine trans (setEngine s ?_ ?_ ?_ ?_) (raiseCalibration _ _) <;> rfl
    · exact refl s

theorem endSearch (s : State) : TickOnly s s.endSearch := by
  unfold State.endSearch
  split
  · exact refl s
  · exact ⟨rfl, rfl, rfl, rfl, rfl, rfl, rfl, rfl, rfl, rfl, rfl, rfl, rfl, rfl, rfl, rfl, rfl, fun _ => rfl, fun _ _ _ => rfl,
      fun _ => rfl, fun _ => rfl⟩

theorem searchTimeout (s : State) : TickOnly s s.searchTimeout := by
  unfold State.searchTimeout
  split
  · exact endSearch s
  · exact refl s

/-- The end of a tick. -/
theorem settleTick (s : State) : TickOnly s s.settleTick :=
  (((deliverOverdue s).trans (foldl _ (fun s n => ofContext (ContextOnly.reachContext s n)) _ _)).trans (shortTimeout _)).trans
    (searchTimeout _)

end TickOnly

end Sys2Proof.Machine
end

