-- ==== Sys2Proof/Tests/Slice0.lean ====
section
/-! SUPPORT. Tests on small states: ill-formed commands are refused by `wellFormed`, frames written out byte by byte from section 10.7
decode to their commands, single steps of the manual's worked examples give the manual's figures, and every hypothesis of a statement of
Certificates/Slice0/Obligations.lean is met by a concrete state (the theorems named `witness_<statement>`). -/

namespace Sys2Proof.Tests

open Sys2Proof.Machine Sys2Proof.Safety

/-! ## Small states -/

/-- The part after initialization, reference locked. -/
def started : State :=
  { State.reset with
    engine := { Engine.reset with init := false }
    clock := { Clock.reset with search := none, monitor := .locked } }

/-- The same with a frame open. -/
def inFrame : State := { started with port := { Port.reset with frame := .opened } }

/-- A part at a timescale value. -/
def atTick (s : State) (t : Tick) (elapsed : Nat) : State := { s with clock := { s.clock with timescale := t, elapsed := elapsed } }

/-- A part with one context defined, on its channels' lists. -/
def withCtx (s : State) (n : Fin 16) (c : Context) : State := (s.setCtx n c).relist n c.config

/-- The part after a command or event. -/
def after (c : Instr) (s : State) : State :=
  match exec c s with
  | .next t => t
  | .fault f => nomatch f
  | .refused _ => s

/-- A configuration block of zeros. -/
def noBlock : ConfigBlock := ⟨0, 0, 0, 0, 0, 0, 0, 0, 0, 0, 0, 0, 0, 0, 0, 0, 0, 0, 0, 0⟩

/-- Values of MODIFY CONTEXT that select nothing. -/
def noValues : ModifyBlock := ⟨0, 0, 0, 0, 0, 0, 0, 0, 0⟩

/-- A context of a kind in a state, channels 0. -/
def ctxOf (k : Kind) (st : CtxState) : Context :=
  { Context.free with config := { CtxConfig.zero with kind := k, gateTime := 1, averaging := 1, watch := 1 }, state := st }

/-! ## Ill-formed commands -/

theorem test_unknown_command_of_a_known_code_is_refused : (Instr.unknownCommand 0x08).wellFormed = false := by decide
theorem test_unknown_command_is_well_formed : (Instr.unknownCommand 0x04).wellFormed = true := by decide
theorem test_discard_after_the_longest_frame_is_refused : (Instr.frameDiscard 376).wellFormed = false := by decide
theorem test_discard_before_its_last_bit_is_well_formed : (Instr.frameDiscard 375).wellFormed = true := by decide

/-! ## Frames, from the frame table of section 10.7 -/

theorem test_decode_load_timescale :
    decodeFrame [0x09, 0x00, 0x00, 0x00, 0x00, 0x01, 0x02] = some (.loadTimescale 0x102) := by decide
theorem test_decode_set_sync : decodeFrame [0x0A, 0x01, 0, 0, 0, 0, 0, 0x07] = some (.setSync 1 7) := by decide
theorem test_decode_configure_channel :
    decodeFrame [0x10, 0x05, 0x01, 0x02, 0x0F, 0xFF] = some (.configureChannel 5 1 2 0x0FFF) := by decide
theorem test_decode_calibrate : decodeFrame [0x12, 0x81, 0x01] = some (.calibrate 0x81 1) := by decide
theorem test_decode_read_table_with_more_bytes : decodeFrame [0x15, 0x03, 0xFE, 0x55] = some (.readTable 3 0xFE) := by decide
theorem test_decode_arm : decodeFrame [0x22, 0x03, 0, 0, 0, 0x01, 0, 0] = some (.arm 3 0x10000) := by decide
theorem test_decode_read_result : decodeFrame [0x28, 0x0F] = some (.readResult 15) := by decide
theorem test_decode_set_priority : decodeFrame [0x30, 0x13, 0x0F, 0x03] = some (.setPriority 19 15 3) := by decide
theorem test_decode_unknown_code : decodeFrame [0x07] = some (.unknownCommand 7) := by decide
theorem test_decode_cut_short : decodeFrame [0x11] = none := by decide

/-- The 47 bytes of a DEFINE CONTEXT: TOTALIZE, channel A 5, gate mode TIME, CONTINUOUS, G of 1,000 µs, W of 1 ms. -/
theorem test_decode_define_context :
    decodeFrame ([0x20, 11, 3, 5, 0, 0, 0, 0, 0, 0, 1, 0, 0, 0, 0, 0] ++ [0, 0, 0, 0x03, 0xE8] ++ [0, 0] ++ [0, 0, 0, 0] ++
      [0, 0, 0, 1] ++ [0, 0, 0, 0, 0, 0, 0, 0] ++ [0, 0, 0, 0, 0, 0, 0, 9]) =
      some (.defineContext 11 { noBlock with kind := 3, channelA := 5, runMode := 1, gateTime := 1000, watch := 1, highLimit := 9 }) := by
  decide

/-- The 35 bytes of a MODIFY CONTEXT that selects the gate time: bit 3, G of 1,500 µs. -/
theorem test_decode_modify_context :
    decodeFrame ([0x21, 6, 0x00, 0x08, 0] ++ [0, 0, 0, 0, 0, 0, 0, 0] ++ [0, 0, 0, 0, 0, 0, 0, 0] ++ [0, 0, 0] ++
      [0, 0, 0, 0x05, 0xDC] ++ [0, 0, 0, 0] ++ [0, 0]) =
      some (.modifyContext 6 8 { noValues with gateTime := 1500 }) := by
  decide

theorem test_no_word_of_the_table : decodeTableWord 8 0 = none ∧ (inFrame.withFetchWord 8 0).pending = [] := by decide

/-! ## Worked examples, one step each -/

/-- Section 1.7: the stamps either side of the wrap and their difference. -/
theorem test_stamp_across_the_wrap :
    stampOf 281474976710653 100 = 1152921504606834588 ∧ stampOf 5 2000 = 18480 ∧
      (stampOf 5 2000 - stampOf 281474976710653 100).toNat = 30868 ∧ tickOfStamp (stampOf 5 2000) = 5 := by decide

/-- Section 1.7: the four cases of the AT_TIME test at now = 1,000,000. -/
theorem test_arm_time_cases :
    armTimeTest 1250000 1000000 = .future ∧ armTimeTest 1000000 1000000 = .present ∧ armTimeTest 999000 1000000 = .past ∧
      armTimeTest 140737489355328 1000000 = .past := by decide

/-- Section 1.7: a refused SYNC load; the timescale counts on, the mode is OFF, REFUSED stands on source 19. -/
theorem test_refused_sync :
    let s := after .syncEdge { withCtx (atTick started 7512339 9) 3 (ctxOf .frequency .starting) with
      clock := { started.clock with timescale := 7512339, elapsed := 9, syncMode := .loadOnRise } }
    s.clock.timescale = 7512340 ∧ s.clock.syncMode = .off ∧ (s.source sourceSync).events = 0b0010 := by
  decide +kernel

/-- Channel 2 of section 2.11: polarity BOTH, holdoff 1, both counters 500, tick 1,000. -/
def channelTwo : State :=
  (atTick started 1000 5000).setChannel 2 { Channel.reset with enable := true, polarity := .both, holdoff := 1, rising := 500, falling := 500 }

/-- Edge e1 of section 2.11, 3,072 su before its edge tick. -/
def afterE1 : State := after (.inputEdge 2 .rise 0 3072) channelTwo

/-- Section 2.11: e1 is accepted and stamped, e2 in the same tick is held off. -/
theorem test_edge_accepted_and_edge_held_off :
    (afterE1.channel 2).rising = 501 ∧ (afterE1.channel 2).lastStamped = some (4096 * 5001 - 3072) ∧
      ((after (.inputEdge 2 .fall 0 1024) afterE1).channel 2).falling = 500 := by decide

/-- Section 2.11: e4, 8.0 ns after e1, is accepted and not stamped; the blind history stays at e1. -/
theorem test_edge_within_the_blind_time :
    let s := after (.inputEdge 2 .fall 0 3072) (atTick afterE1 1002 5002)
    (s.channel 2).falling = 501 ∧ (s.channel 2).lastAccepted = some 5003 ∧ (s.channel 2).lastStamped = some (4096 * 5001 - 3072) := by
  decide

/-- Section 3.10: the blended values of codes 37 to 39. -/
theorem test_blended_values : blendValue 571 583 = 574 ∧ blendValue 579 590 = 582 ∧ blendValue 587 612 = 593 := by decide

/-- Section 3.10: the fresh values of codes 36 to 39 and 244 from their cumulative counts. -/
theorem test_fresh_values :
    roundHalfUp (17740 * 4096) 131072 = 554 ∧ roundHalfUp (18260 * 4096) 131072 = 571 ∧ roundHalfUp (18520 * 4096) 131072 = 579 ∧
      roundHalfUp (18778 * 4096) 131072 = 587 ∧ min 4095 (roundHalfUp (131060 * 4096) 131072) = 4095 := by decide

/-- Section 3.10: CALIBRATE LONG while channel 1 runs SHORT and channel 3 waits: the waiting entry is converted in place. -/
theorem test_requests_merged :
    let s := after (.calibrate 0b00101011 1)
      { withCtx inFrame 2 (ctxOf .frequency .gating) with
        engine := { started.engine with running := some ⟨1, .short, 0, 0⟩, queue := [⟨3, .short⟩] } }
    s.engine.queue = [⟨3, .long⟩, ⟨1, .long⟩, ⟨5, .long⟩] ∧ s.port.resultOut = some .inUse ∧
      s.port.response = [0x12, 0, 0, 0, 0, 0, 0, 0] ∧ s.engine.phase 1 = .longWait := by decide

/-- Section 4.9: the list of channel 2 with MC3 and MC7 defined and MC0 defined last. -/
theorem test_listener_list_order :
    let three : CtxConfig := { CtxConfig.zero with
      kind := .interval, channelA := 2, channelB := 5, senseB := .fall, armMode := .onEdge, armChannel := 2, armSense := .fall }
    let seven : CtxConfig := { CtxConfig.zero with kind := .totalize, gateMode := .window, channelA := 1, channelB := 2 }
    let s := (started.relist 3 three).relist 7 seven
    let t := after (.defineContext 0 { noBlock with kind := 1, channelA := 2 }) { s with port := inFrame.port }
    t.listenersOf 2 = [(0, .a), (3, .a), (3, .arm), (7, .b)] ∧ t.listenersOf 5 = [(3, .b)] ∧ t.port.resultOut = some .clamped := by
  decide

/-- MC6 of section 4.9 once defined. -/
def six : Context :=
  { ctxOf .frequency .idle with
    config := { (ctxOf .frequency .idle).config with
      armMode := .atTime, gateTime := 1000, watch := 100000000, limitEnable := true, lowLimit := 9000000000000000,
      highLimit := 11000000000000000 } }

/-- Section 4.9: an arm time in the past arms at once with LATE pending; a MODIFY that would cross the limits changes nothing. -/
theorem test_late_arm_and_refused_modify :
    let s := (after (.arm 6 49750000)
      { withCtx (atTick inFrame 50000000 7) 6 six with engine := started.engine, channels :=
        (started.setChannel 0 { Channel.reset with enable := true }).channels })
    (s.ctx 6).state = .starting ∧ (s.ctx 6).latePending = true ∧ (s.ctx 6).live.deadline = some 25000050000000 ∧
      (after (.modifyContext 6 9 { noValues with
        limitEnable := 1, lowLimit := 12000000000000000, highLimit := 11000000000000000, gateTime := 1500 }) s).port.resultOut =
          some .badField := by
  decide

/-- MC1 of section 5.7 in its first gate, at the arrival of edge b. -/
def gateOne : State :=
  let c := { ctxOf .frequency .closing with
    config := { (ctxOf .frequency .closing).config with gateTime := 2, runMode := .continuous },
    live := { Live.zero with
      startStamp := 8192039960, startCount := 40, startGeneration := 3, expiryTick := 2000510, deadline := some 2250510 } }
  { withCtx (atTick started 2000535 600) 1 c with
    bus := [⟨0, .rise, 2000535, some ⟨1010, 61, 3, false⟩, 600, 4096 * 600 - 1010, [1]⟩] }

/-- Section 5.7: message b closes gate 1 with E 21 and span 2,150,390 and opens the next gate with expiry 2,001,035. -/
theorem test_frequency_gate_closes :
    let s := after (.stampedEdgeMessage 1 0) gateOne
    (s.ctx 1).slot = some ⟨.frequency 21 2150390 8192039960, Flags.clear, 1⟩ ∧ (s.ctx 1).state = .gating ∧
      (s.ctx 1).live.startStamp = 8194190350 ∧ (s.ctx 1).live.expiryTick = 2001035 ∧ s.quotient.queue = [1] := by decide

/-- Section 5.7: a gate that finds the slot QUEUED replaces it with GAP, and CAL_SWAP marks the new generation. -/
theorem test_frequency_gate_replaced :
    let s := after (.stampedEdgeMessage 1 0)
      { (gateOne.modCtx 1 fun c => { c with slot := some ⟨.frequency 1 1 1, Flags.clear, 0⟩ }) with
        bus := [⟨0, .rise, 2000535, some ⟨1010, 61, 4, false⟩, 600, 4096 * 600 - 1010, [1]⟩] }
    (s.ctx 1).slot.map RawGate.flags = some { Flags.clear with gap := true, calSwap := true } ∧
      (s.source 1).events = 0b0100 ∧ s.quotient.queue = [] := by decide

/-- MC10 of section 6.8 in GATING after a1, with D of 2. -/
def intervalOne : State :=
  let c := { ctxOf .interval .gating with
    config := { (ctxOf .interval .gating).config with channelA := 1, channelB := 2, averaging := 4, stopDelay := 2 },
    live := { Live.zero with
      startStamp := 12288409100, batchOpen := true, batchSize := 4, firstStart := 12288409100, batchGenA := some 5,
      deadline := some 3250100 } }
  withCtx (atTick started 3000103 600) 10 c

/-- Section 6.8: b1 forms the interval 10,240 and the context waits with floor b1. -/
theorem test_interval_stop :
    let s := after (.stampedEdgeMessage 10 2)
      { intervalOne with bus := [⟨2, .rise, 3000103, some ⟨2548, 1, 5, false⟩, 600, 4096 * 600 - 2548, [10]⟩] }
    (s.ctx 10).state = .starting ∧ (s.ctx 10).live.batchSum = 10240 ∧ (s.ctx 10).live.batchCount = 1 ∧
      (s.ctx 10).live.floor = 12288419340 ∧ (s.ctx 10).live.deadline = some 3250103 := by decide

/-- Section 6.8: a notice past the stop limit drops the interval with BLIND. -/
theorem test_interval_dropped :
    let s := after (.unstampedEdgeNotice 10 2)
      { intervalOne with bus := [⟨2, .rise, 3000103, none, 600, 4096 * 600 - 2548, [10]⟩] }
    (s.ctx 10).state = .starting ∧ (s.ctx 10).live.floor = 12288421888 ∧ (s.ctx 10).live.flags.blind = true ∧
      (s.ctx 10).live.batchCount = 0 := by decide

/-- MC11 of section 7.7 at the expiry of gate 41. -/
def gateFortyOne : State :=
  let c := { ctxOf .totalize .gating with
    config := { (ctxOf .totalize .gating).config with channelA := 5, runMode := .continuous, gateTime := 1000 },
    live := { Live.zero with openTick := 9000000, openCount := 1200000, expiryTick := 9250000 }
    total := 281474976710556, seq := 40 }
  (withCtx (atTick started 9250000 600) 11 c).setChannel 5 { Channel.reset with enable := true, rising := 1200250 }

/-- Section 7.7: gate 41 closes with E 250, the total clamped with SAT, and the next gate opens at its close tick. -/
theorem test_total_meets_its_limit :
    let s := after (.totalizeTimeExpiry 11) gateFortyOne
    (s.ctx 11).record.figures = .totalize 250 281474976710655 9000000 9250000 ∧ (s.ctx 11).record.flags.sat = true ∧
      (s.ctx 11).seq = 41 ∧ (s.ctx 11).live.openCount = 1200250 ∧ (s.ctx 11).live.expiryTick = 9500000 := by decide

/-- Section 6.8: the mean of the batch of MC10. -/
theorem test_mean : (meanOf 40971 4).toNat = 10243 := by decide

/-- Section 9.8: at equal priority the lower ID is claimed, and RESULT stays. -/
theorem test_claim_lower_id :
    let s := (((inFrame.modCtx 2 fun c => { c with record := { c.record with fresh := true } }).setSource 2 ⟨6, 0b1111, 0⟩).setSource 7
      ⟨6, 0b1111, 0b0010⟩)
    let t := after .claim { s with attention := { s.attention with threshold := 4 } }
    t.port.response = [2, 6, 0b0001] ∧ t.outstanding 2 = 0b0001 ∧ t.outstanding 7 = 0b0010 := by decide

/-- Section 10.8: frame 4's status copy 0x1C, reference state 1, SYNC mode 0, mask 0; FRAME_ERR is then clear. -/
theorem test_device_status :
    let t := after .readDeviceStatus { inFrame with port := { inFrame.port with frameErr := true, lastRefused := true } }
    t.port.response = [0x1C, 1, 0, 0, 0, 0] ∧ t.port.frameErr = false ∧ t.port.lastRefused = false := by decide

/-- Section 10.8: the status byte of frame 2, after a refused ARM on a GATING context. -/
theorem test_refused_arm_in_the_next_status_byte :
    let t := after (.arm 3 0) (withCtx inFrame 3 (ctxOf .frequency .gating))
    t.port.resultOut = some .state ∧ (after .frameStart (after .frameEnd t)).port.statusOut = 0x14 := by decide

/-- R164: the bytes out of SET THRESHOLD with level 9: status copy, 0x00 while the level comes in, the code OK, the level kept, 0x00. -/
theorem test_bytes_out :
    let t := after (.setThreshold 9) (after .frameStart started)
    (List.range 5).map t.byteOut = [some 0x10, some 0, some 0, some 9, some 0] ∧ (after .frameEnd t).byteOut 0 = none := by decide +kernel

/-- R176: CSN low across the rise of RSTN: the frame's command does nothing and its end sets no FRAME_ERR; the next frame is taken. -/
theorem test_frame_cut_by_reset_is_not_taken :
    let s := after .resetRelease (after .powerOnReset inFrame)
    (after (.setThreshold 9) s).attention.threshold = 1 ∧ (after (.frameDiscard 40) s).port.frameErr = false ∧
      (after (.setThreshold 9) (after .frameStart (after (.frameDiscard 40) s))).attention.threshold = 9 := by decide +kernel

/-- R93, R94: the closing message of gate 1 of section 5.7 before the reaching of its expiry tick closes the gate just as after it. -/
theorem test_closing_message_before_the_expiry :
    let s := gateOne.modCtx 1 fun c => { c with state := .gating, live := { c.live with deadline := none } }
    (after (.stampedEdgeMessage 1 0) s).ctx 1 = (after (.stampedEdgeMessage 1 0) gateOne).ctx 1 ∧
      (after (.gateTimeExpiry 1) s).ctx 1 = gateOne.ctx 1 := by decide

/-- R125: with D of 250,000·W a stop at the deadline tick finds the interval timed out. -/
theorem test_stop_delay_of_the_watch_times_out :
    let c := { intervalOne.ctx 10 with
      config := { (intervalOne.ctx 10).config with stopDelay := 250000 }
      live := { (intervalOne.ctx 10).live with startStamp := 4096 * 2750103, deadline := some 3000103 } }
    let s : State := { intervalOne.setCtx 10 c with bus := [⟨2, .rise, 3000103, some ⟨0, 1, 5, false⟩, 600, 4096 * 600, [10]⟩] }
    (after (.stampedEdgeMessage 10 2) s).bus = s.bus ∧ ((after (.watchExpiry 10) s).source 10).events = 0b1000 := by decide +kernel

/-! ## The hypotheses of the statements are met

One theorem per statement that has hypotheses: a state and operands for each of its clauses, at boundary values where a clause has a
range. -/

/-- A context with one item from a channel on its way to it, which may arrive now: the tick is 105, the edge tick the latest. -/
def delivering (n : Fin 16) (c : Context) (ch : Fin 8) (sense : EdgeSense) (stamped : Option StampInfo) : State :=
  { withCtx (atTick started 105 5) n c with bus := [⟨ch, sense, 105, stamped, 5, 4096 * 5 - 96, [n]⟩] }

/-- What the statements ask of an item that a context takes: it may arrive, the context is listed, and its edge came after the ARM. -/
def Awaited (s : State) (n : Fin 16) (c : Fin 8) (i : BusItem) : Prop := Arriving s n c i ∧ ListedOn s n c ∧ AfterArm s n i

/-- What a message carries. -/
def info : StampInfo := ⟨96, 7, 3, false⟩

/-- A part whose engine runs a calibration. -/
def running (s : State) (c : Fin 8) (k : CalKind) (hits ticks : Nat) : State :=
  { s with engine := { s.engine with running := some ⟨c, k, hits, ticks⟩ } }

/-- A part in a given histogram. -/
def collected (s : State) (h : Histogram) : State := { s with engine := { s.engine with histogram := h } }

/-- A part with all channels enabled, both senses admitted. -/
def serving (s : State) : State := { s with channels := Vector.replicate 8 { Channel.reset with enable := true, polarity := .both } }

theorem witness_EveryCommandAnswersNext :
    encodeFrame .coarseTick = none ∧ Instr.coarseTick ≠ .frameStart ∧ (∀ k, Instr.coarseTick ≠ .frameDiscard k) ∧
      Instr.coarseTick ≠ .frameEnd ∧ Instr.coarseTick ≠ .resultRecordSnapshot ∧ Instr.coarseTick ≠ .powerOnReset :=
  ⟨rfl, by decide, fun _ h => (by cases h), by decide⟩

theorem witness_CommandBringsItsOwnFrame :
    (encodeFrame (.setThreshold 15)).isSome = true ∧ (Instr.setThreshold 15).wellFormed = true ∧ started.rstnLow = false ∧
      started.port.frame = .none ∧ (after .noOperation inFrame).rstnLow = false ∧ (after .noOperation inFrame).port.frame = .executed := by
  decide

theorem witness_FrameStartFormsStatusByte :
    started.rstnLow = false ∧ started.port.frame = .none ∧ (after .noOperation inFrame).port.frame = .executed := by decide

theorem witness_FrameBytesAndEndings :
    InFrame inFrame ∧ 0 < 1 ∧ (after .noOperation inFrame).rstnLow = false ∧ (after .noOperation inFrame).port.frame = .executed ∧
      started.port.frame = .none ∧ inFrame.port.frame = .opened ∧
      ((Instr.readTable 7 255).wellFormed = true ∧ encodeFrame (.readTable 7 255) = some [0x15, 7, 255] ∧
        ((after (.readTable 7 255) inFrame).port.burst = .table (inFrame.engine.tables[7]) 255)) ∧
      ((Instr.readIdentity).wellFormed = true ∧ encodeFrame .readIdentity = some [0x02] ∧
        (after .readIdentity inFrame).port.burst = .none ∧ 4 < (after .readIdentity inFrame).port.response.length) :=
  ⟨⟨rfl, rfl⟩, by decide, rfl, rfl, rfl, rfl, ⟨rfl, rfl, rfl⟩, rfl, rfl, rfl, by decide⟩

theorem witness_DeviceStatusReturned : InFrame inFrame ∧ inFrame.clock.monitor = .locked ∧ inFrame.clock.syncMode = .off :=
  ⟨⟨rfl, rfl⟩, rfl, rfl⟩

theorem witness_IdentityAndNoOperation : InFrame inFrame := ⟨rfl, rfl⟩

theorem witness_UnknownCodeAnswersUnknown :
    InFrame inFrame ∧ ∀ code ∈ ([0x04, 0x17, 0x33, 0xFF] : List Byte),
      code ∉ ([0x00, 0x01, 0x02, 0x03, 0x08, 0x09, 0x0A, 0x10, 0x11, 0x12, 0x13, 0x14, 0x15, 0x16, 0x20, 0x21, 0x22, 0x23, 0x24, 0x25,
        0x28, 0x29, 0x2A, 0x30, 0x31, 0x32] : List Byte) :=
  ⟨⟨rfl, rfl⟩, by decide⟩

theorem witness_IndexOutOfSetAnswersRange :
    InFrame inFrame ∧ 8 ≤ (8 : Byte).toNat ∧ 16 ≤ (16 : Byte).toNat ∧ 20 ≤ (20 : Byte).toNat ∧ 20 ≤ (255 : Byte).toNat :=
  ⟨⟨rfl, rfl⟩, by decide⟩

theorem witness_InitRefusesUntilItEnds :
    let s := { State.reset with port := inFrame.port }
    InFrame s ∧ s.engine.init = true ∧ (15 : Byte).toNat = (15 : Fin 16).val ∧
      (Instr.noOperation ≠ .powerOnReset ∧ exec .noOperation inFrame = .next (after .noOperation inFrame) ∧ inFrame.engine.init = false) :=
  ⟨⟨rfl, rfl⟩, rfl, rfl, by decide, rfl, rfl⟩

theorem witness_SoftResetSetsEveryBlock :
    InFrame inFrame ∧ inFrame.engine.init = false ∧ inFrame.engine.running = none ∧
      InFrame (running inFrame 7 .long 65536 0) ∧ (running inFrame 7 .long 65536 0).engine.init = false ∧
      (running inFrame 7 .long 65536 0).engine.running = some ⟨7, .long, 65536, 0⟩ :=
  ⟨⟨rfl, rfl⟩, rfl, rfl, ⟨rfl, rfl⟩, rfl, rfl⟩

theorem witness_PowerOnResetValues :
    (after .powerOnReset inFrame).rstnLow = true ∧ (after .powerOnReset inFrame).port.frame = .ignored ∧ inFrame.port.frame ≠ .none ∧
      (after .powerOnReset started).rstnLow = true ∧ (after .powerOnReset started).port.frame = .none ∧ started.port.frame = .none ∧
      (encodeFrame .noOperation).isSome = true :=
  ⟨rfl, rfl, by decide, rfl, rfl, rfl, rfl⟩

theorem witness_TickAdvancesAndWraps :
    let s := atTick started 281474976710655 9
    s.rstnLow = false ∧ s.clock.timescale.toNat = 2 ^ 48 - 1 ∧
      ({ s with clock := { s.clock with syncMode := .loadOnRise } } : State).clock.syncMode = .loadOnRise ∧
      ({ s with clock := { s.clock with syncMode := .loadOnRise } } : State).settleTick.anyActive = false :=
  ⟨rfl, by decide, rfl, by decide +kernel⟩

/-- The counts that a tick takes further, at the last of the search and of a short calibration and before. -/
theorem witness_TickAdvancesAndWraps_counted :
    (started.clock.search = none ∧ started.engine.running = none) ∧
      (∀ k ∈ [0, 499999999, 500000000],
        ({ State.reset with rstnLow := false, clock := { Clock.reset with search := some k } } : State).clock.search = some k) ∧
      (running started 0 .long 65536 0).engine.running = some ⟨0, .long, 65536, 0⟩ ∧
      ∀ ticks ∈ [2499999999, 2500000000], ∀ hits ∈ [8191, 8192],
        (running started 7 .short hits ticks).engine.running = some ⟨7, .short, hits, ticks⟩ := by decide

theorem witness_TimescaleReadAndLoaded :
    InFrame inFrame ∧ (∀ n, ¬Active inFrame n) ∧ InFrame (withCtx inFrame 15 (ctxOf .interval .armed)) ∧
      Active (withCtx inFrame 15 (ctxOf .interval .armed)) 15 :=
  ⟨⟨rfl, rfl⟩, by unfold Active; decide, ⟨rfl, rfl⟩, .inl rfl⟩

set_option maxRecDepth 100000 in
theorem witness_SyncIsOneShot :
    let s : State := { started with clock := { started.clock with syncMode := .loadOnRise, preset := 281474976710655 } }
    let u := withCtx s 0 (ctxOf .frequency .armed)
    InFrame inFrame ∧ 2 ≤ (2 : Byte).toNat ∧ started.clock.syncMode = .off ∧
      (s.rstnLow = false ∧ QuietTick s ∧ s.clock.syncMode = .loadOnRise ∧ ∀ n, ¬Active s n) ∧
      (u.rstnLow = false ∧ QuietTick u ∧ u.clock.syncMode = .loadOnRise ∧ Active u 0) :=
  ⟨⟨rfl, rfl⟩, by decide, rfl, ⟨rfl, rfl, rfl, by unfold Active; decide⟩, rfl,
    rfl, rfl, .inl rfl⟩

theorem witness_ReferenceMonitorMoves :
    InFrame inFrame ∧ State.reset.rstnLow = false ∧ State.reset.clock.monitor = .searching ∧ started.rstnLow = false ∧
      started.clock.monitor = .locked ∧
      (after .lockLost started).rstnLow = false ∧ (after .lockLost started).clock.monitor = .holdover ∧
      (Instr.noOperation ≠ .powerOnReset ∧ exec .noOperation State.reset = .next (after .noOperation State.reset) ∧
        (after .noOperation State.reset).clock.monitor = .searching) :=
  ⟨⟨rfl, rfl⟩, rfl, rfl, rfl, rfl, rfl, rfl, by decide, rfl, rfl⟩

theorem witness_SearchEndsAndLossNoticesMark :
    let late : State := { State.reset with clock := { Clock.reset with search := some 500000000 } }
    let ended : State := { State.reset with clock := { Clock.reset with search := none } }
    late.clock.search = some 500000000 ∧
      (State.reset.rstnLow = false ∧ State.reset.clock.monitor = .searching ∧ State.reset.clock.search = some 0) ∧
      (ended.rstnLow = false ∧ ended.clock.monitor = .searching ∧ ended.clock.search = none) ∧
      (after .lockLost (withCtx started 4 (ctxOf .totalize .gating))).lossNotices[4] ≠ 0 ∧
      ((after .lockLost (withCtx started 4 (ctxOf .totalize .gating))).ctx 4).state = .gating ∧
      ((after .lockLost (withCtx started 4 (ctxOf .totalize .gating))).ctx 4).config.kind = .totalize ∧
      (after .lockLost started).lossNotices[15] ≠ 0 ∧ ((after .lockLost started).ctx 15).state = .free := by decide

theorem witness_NoLoadUnderActiveContext :
    let s := withCtx started 0 (ctxOf .totalize .gating)
    Instr.lockLost ≠ .powerOnReset ∧ exec .lockLost s = .next (after .lockLost s) ∧ ∃ n, Active (after .lockLost s) n :=
  ⟨by decide, rfl, 0, .inr (.inr (.inl rfl))⟩

theorem witness_ConfigureChannelJudged :
    let held := withCtx inFrame 3 (ctxOf .frequency .settling)
    let waits : State := { inFrame with engine := { inFrame.engine with queue := [⟨7, .short⟩] } }
    InFrame inFrame ∧ (7 : Byte).toNat = (7 : Fin 8).val ∧ 8 ≤ (8 : Byte).toNat ∧ 2 ≤ (2 : Byte).toNat ∧ 3 ≤ (3 : Byte).toNat ∧
      (1 : Byte).toNat < 2 ∧ (2 : Byte).toNat < 3 ∧ (InFrame held ∧ HeldByContext held 0) ∧ (InFrame waits ∧ waits.engine.phase 7 ≠ .none) ∧
      ¬HeldByContext inFrame 7 ∧ inFrame.engine.phase 7 = .none :=
  ⟨⟨rfl, rfl⟩, rfl, by decide, by decide, by decide, by decide, by decide, ⟨⟨rfl, rfl⟩, by unfold HeldByContext Active; decide⟩,
    ⟨⟨rfl, rfl⟩, by decide⟩, by unfold HeldByContext Active; decide, by decide⟩

theorem witness_ReadChannelReturns : InFrame inFrame ∧ (7 : Byte).toNat = (7 : Fin 8).val := ⟨⟨rfl, rfl⟩, rfl⟩

theorem witness_RejectedEdgesLeaveNoTrace :
    (started.channel 0).enable = false ∧ (running started 1 .long 0 0).engine.phase 1 = .longRun ∧
      ((started.channel 2).polarity = .rise ∧ EdgeSense.fall = .fall) ∧
      (let s := (atTick started 0 4994).setChannel 2 { Channel.reset with enable := true, holdoff := 4095, lastAccepted := some 900 };
        0 < (s.channel 2).holdoff.toNat ∧ (s.channel 2).lastAccepted = some 900 ∧
          s.clock.elapsed + 1 ≤ 900 + (s.channel 2).holdoff.toNat) := by decide

theorem witness_AcceptedEdgesAreCountedAndSent :
    let x : Channel := { Channel.reset with enable := true, holdoff := 4095, lastAccepted := some 900, lastStamped := some 4096 }
    let s := running ((atTick started 0 4995).setChannel 2 x) 2 .short 8191 0
    s.rstnLow = false ∧ (s.channel 2).enable = true ∧ s.engine.phase 2 ≠ .longRun ∧ (s.channel 2).polarity = .rise ∧
      (s.channel 2).lastAccepted = some 900 ∧ 900 + (s.channel 2).holdoff.toNat < s.clock.elapsed + 1 ∧
      (s.channel 2).lastStamped = some 4096 ∧ 4096 + 8192 < 4096 * (s.clock.elapsed + 1) - (4095 : BitVec 12).toNat ∧
      s.engine.running = some ⟨2, .short, 8191, 0⟩ ∧
      (serving started).channel 0 = { Channel.reset with enable := true, polarity := .both } ∧
      (let t := (serving started).setChannel 0 { (serving started).channel 0 with lastStamped := some 0 };
        (t.channel 0).holdoff.toNat = 0 ∧ (t.channel 0).lastStamped = some 0 ∧
          4096 * (t.clock.elapsed + 1) - (0 : BitVec 12).toNat ≤ 0 + 8192) := by decide

theorem witness_CalibrationReadBack :
    InFrame (running inFrame 7 .short 8191 3) ∧ (7 : Byte).toNat = (7 : Fin 8).val ∧
      (running inFrame 7 .short 8191 3).engine.running = some ⟨7, .short, 8191, 3⟩ ∧
      8 ≤ (8 : Byte).toNat ∧ (0 : Fin 256).val = ((255 : Byte).toNat + 1) % 256 :=
  ⟨⟨rfl, rfl⟩, rfl, rfl, by decide⟩

theorem witness_CalibrateJudgesEachChannel :
    ({ State.reset with port := inFrame.port } : State).engine.init = true ∧ InFrame inFrame ∧ inFrame.engine.init = false ∧
      2 ≤ (2 : Byte).toNat ∧ (1 : Byte).toNat < 2 ∧ (0 : Byte).toNat < 2 :=
  ⟨rfl, ⟨rfl, rfl⟩, rfl, by decide⟩

theorem witness_AbortCalibrationStopsEachChannel : InFrame inFrame ∧ inFrame.engine.init = false := ⟨⟨rfl, rfl⟩, rfl⟩

theorem witness_CalibrationStartsAndCollects :
    let s : State := { started with engine := { started.engine with queue := [⟨5, .long⟩] } }
    (s.engine.running = none ∧ s.engine.queue = [⟨5, .long⟩]) ∧
      (running started 5 .long 65535 0).engine.running = some ⟨5, .long, 65535, 0⟩ ∧ 65535 < 65536 ∧
      (running started 5 .long 65536 0).engine.running = some ⟨5, .long, 65536, 0⟩ ∧ 65536 ≤ 65536 := by decide

theorem witness_LongCalibrationCompletes :
    let good := collected (running started 7 .long 65536 0) (Vector.replicate 256 256)
    let bad := collected (running started 7 .long 65536 0) ((Vector.replicate 256 0).set 9 8193)
    good.engine.running = some ⟨7, .long, 65536, 0⟩ ∧ (∀ x ∈ good.engine.queue, x.channel ≠ 7) ∧
      (∀ k : Fin 256, good.engine.histogram[k].toNat ≤ 8192) ∧
      bad.engine.running = some ⟨7, .long, 65536, 0⟩ ∧ ∃ k : Fin 256, 8192 < bad.engine.histogram[k].toNat :=
  ⟨rfl, by decide, fun k => by simp [collected], rfl, 9, by decide⟩

theorem witness_ShortCalibrationCompletes :
    let good := collected (running started 7 .short 8192 0) (Vector.replicate 256 32)
    let bad := collected (running started 7 .short 8192 0) ((Vector.replicate 256 0).set 9 1025)
    let queued : State := { good with engine := { good.engine with queue := [⟨7, .long⟩] } }
    good.engine.running = some ⟨7, .short, 8192, 0⟩ ∧ (∀ x ∈ good.engine.queue, x.channel ≠ 7) ∧
      (∀ k : Fin 256, good.engine.histogram[k].toNat ≤ 1024) ∧ ⟨7, .long⟩ ∈ queued.engine.queue ∧
      bad.engine.running = some ⟨7, .short, 8192, 0⟩ ∧ ∃ k : Fin 256, 1024 < bad.engine.histogram[k].toNat :=
  ⟨rfl, by decide, fun k => by simp [collected], by decide, rfl, 9, by decide⟩

theorem witness_ShortCalibrationTimesOut :
    (running started 0 .short 8191 2500000000).engine.running = some ⟨0, .short, 8191, 2500000000⟩ ∧ 8191 < 8192 := by decide

theorem witness_FreshTableIsCodeDensity : 0 < 1 := by decide

/-- A block that DEFINE CONTEXT takes: FREQUENCY on channel 0. -/
def goodBlock : ConfigBlock := { noBlock with kind := 1, gateTime := 1, watch := 1 }

theorem witness_DefineContextJudged :
    InFrame inFrame ∧ 16 ≤ (16 : Byte).toNat ∧ (15 : Byte).toNat = (15 : Fin 16).val ∧ (inFrame.ctx 15).state = .free ∧
      ((withCtx inFrame 15 (ctxOf .frequency .settling)).ctx 15).state = .settling ∧
      ¬((1 ≤ noBlock.kind.toNat ∧ noBlock.kind.toNat ≤ 3) ∧ (decide (noBlock.kind = 3) = true → noBlock.gateMode.toNat < 3)) ∧
      (∀ b ∈ [goodBlock, { goodBlock with channelA := 8 }, { goodBlock with senseA := 3 }, { goodBlock with runMode := 2 },
          { goodBlock with limitEnable := 1, lowLimit := 1 }, { goodBlock with armMode := 2, armChannel := 8 }],
        1 ≤ b.kind.toNat ∧ b.kind.toNat ≤ 3 ∧ b.kind ≠ 3) ∧
      ¬(8 : Byte).toNat < 8 ∧ ¬(3 : Byte).toNat < 3 ∧ ¬(2 : Byte).toNat < 2 ∧ ¬(1 : BitVec 64) ≤ 0 ∧
      (goodBlock.channelA.toNat < 8 ∧ goodBlock.senseA.toNat < 3 ∧ goodBlock.armMode.toNat < 2 ∧ goodBlock.runMode.toNat < 2 ∧
        goodBlock.limitEnable = 0) :=
  ⟨⟨rfl, rfl⟩, by decide⟩

theorem witness_ModifyContextJudged :
    let s := withCtx inFrame 15 (ctxOf .frequency .gating)
    InFrame s ∧ 16 ≤ (16 : Byte).toNat ∧ (15 : Byte).toNat = (15 : Fin 16).val ∧ (inFrame.ctx 15).state = .free ∧ (s.ctx 15).state ≠ .free ∧
      ((0x2000 : BitVec 16).getLsbD 13 = true ∧ (0x0080 : BitVec 16).getLsbD 7 = true) ∧
      ((0x0020 : BitVec 16).getLsbD 5 = true ∧ (s.ctx 15).config.kind ≠ .interval) ∧
      ((0x0001 : BitVec 16).getLsbD 0 = true ∧ ¬(2 : Byte).toNat < 2) ∧
      (¬(∃ j, 7 ≤ j ∧ j ≤ 13 ∧ (0xC000 : BitVec 16).getLsbD j = true) ∧ ∀ j < 7, (0xC000 : BitVec 16).getLsbD j = false) := by
  refine ⟨⟨rfl, rfl⟩, by decide, by decide, by decide, by decide, by decide, by decide, by decide, ?_, by decide⟩
  rintro ⟨j, hlo, hhi, h⟩
  have : ∀ j < 14, (0xC000 : BitVec 16).getLsbD j = false := by decide
  rw [this j (by omega)] at h
  cases h

/-- A part in which context 15 can be armed. -/
def armable (c : Context) (t : Tick) : State := atTick (withCtx (serving inFrame) 15 c) t 9

/-- A window's context, for ARM's last check. -/
def windowCtx (sense : Sense) : Context :=
  let c := ctxOf .totalize .idle
  { c with config := { c.config with gateMode := .window, senseB := sense } }

/-- A FREQUENCY context of an arm mode. -/
def armModeCtx (m : ArmMode) : Context :=
  let c := ctxOf .frequency .idle
  { c with config := { c.config with armMode := m } }

theorem witness_ArmRefusedInOrder :
    let s := armable (ctxOf .frequency .idle) 0
    InFrame s ∧ (15 : Byte).toNat = (15 : Fin 16).val ∧ s.engine.init = false ∧
      (inFrame.ctx 15).state ≠ .idle ∧
      (let u := withCtx inFrame 15 (ctxOf .frequency .idle);
        (u.ctx 15).state = .idle ∧ ¬∀ r ∈ (u.ctx 15).config.roles, Serving u r.2.1) ∧
      (let u := s.setChannel 0 { Channel.reset with enable := true, polarity := .fall };
        (u.ctx 15).state = .idle ∧ (∀ r ∈ (u.ctx 15).config.roles, Serving u r.2.1) ∧
          (u.channel 0).polarity = .fall ∧ (u.ctx 15).config.senseA = .rise) ∧
      (let u := armable (windowCtx .any) 0;
        (u.ctx 15).state = .idle ∧ (∀ r ∈ (u.ctx 15).config.roles, Serving u r.2.1) ∧
          (∀ r ∈ (u.ctx 15).config.roles, (u.channel r.2.1).polarity = .both) ∧ (u.ctx 15).config.kind = .totalize ∧
          (u.ctx 15).config.gateMode = .window ∧ (u.ctx 15).config.senseB = .any) ∧
      ((s.ctx 15).state = .idle ∧ (∀ r ∈ (s.ctx 15).config.roles, Serving s r.2.1) ∧
        (∀ r ∈ (s.ctx 15).config.roles, (s.channel r.2.1).polarity = .both) ∧ (s.ctx 15).config.kind ≠ .totalize) :=
  ⟨⟨rfl, rfl⟩, by unfold Serving; decide⟩

theorem witness_ArmTakesItsMode :
    (∀ m ∈ [ArmMode.onEdge, .immediate, .atTime],
      let s := armable (armModeCtx m) 281474976710655
      (s.rstnLow = false ∧ s.port.frame = .opened) ∧ s.engine.init = false ∧ (s.ctx 15).state = .idle ∧
        (∀ r ∈ (s.ctx 15).config.roles, Serving s r.2.1) ∧ (∀ r ∈ (s.ctx 15).config.roles, (s.channel r.2.1).polarity = .both) ∧
        (s.ctx 15).config.kind ≠ .totalize ∧ (s.ctx 15).config.armMode = m) ∧
      (((281474976710655 : Tick).toNat + 2 ^ 48 - 281474976710655) % 2 ^ 48 = 0 ∧
        ((0 : Tick).toNat + 2 ^ 48 - 281474976710655) % 2 ^ 48 = 1 ∧
        ((140737488355326 : Tick).toNat + 2 ^ 48 - 281474976710655) % 2 ^ 48 ≤ 2 ^ 47 - 1 ∧
        ((140737488355327 : Tick).toNat + 2 ^ 48 - 281474976710655) % 2 ^ 48 = 2 ^ 47) := by
  unfold Serving; decide

theorem witness_AbortAndRetire :
    InFrame inFrame ∧ (15 : Byte).toNat = (15 : Fin 16).val ∧ (inFrame.ctx 15).state = .free ∧
      ((withCtx inFrame 15 (ctxOf .frequency .idle)).ctx 15).state = .idle ∧
      Active (withCtx inFrame 15 (ctxOf .frequency .closing)) 15 ∧
      ((withCtx inFrame 15 (ctxOf .frequency .settling)).ctx 15).state = .settling :=
  ⟨⟨rfl, rfl⟩, rfl, rfl, rfl, .inr (.inr (.inr rfl)), rfl⟩

/-- A MANUAL context with its gate open. -/
def manualCtx : Context :=
  let c := ctxOf .totalize .gating
  { c with config := { c.config with gateMode := .manual, runMode := .continuous }, live := { Live.zero with deadline := some 105 } }

theorem witness_CloseGateClosesManualGate :
    let s := withCtx inFrame 15 manualCtx
    InFrame s ∧ (15 : Byte).toNat = (15 : Fin 16).val ∧ (s.ctx 15).config.kind = .totalize ∧ (s.ctx 15).config.gateMode = .manual ∧
      (s.ctx 15).state = .gating ∧ ¬((inFrame.ctx 15).config.kind = .totalize) :=
  ⟨⟨rfl, rfl⟩, by decide⟩

theorem witness_ContextReadBack :
    InFrame inFrame ∧ (15 : Byte).toNat = (15 : Fin 16).val ∧ (inFrame.ctx 15).config.kind = .none ∧
      ∀ k ∈ [Kind.frequency, .interval, .totalize],
        ((withCtx inFrame 15 (ctxOf k .gating)).ctx 15).config.kind = k ∧ ((withCtx inFrame 15 (ctxOf k .gating)).ctx 15).state = .gating :=
  ⟨⟨rfl, rfl⟩, by decide⟩

theorem witness_ResultsReadInBursts :
    InFrame inFrame ∧ (15 : Byte).toNat = (15 : Fin 16).val ∧ (after (.readResult 15) inFrame).rstnLow = false ∧
      (after (.readResult 15) inFrame).port.burst = .results 15 ∧ ((after (.readResult 15) inFrame).ctx 15).record.figures = .none ∧
      ((after (.totalizeTimeExpiry 11) gateFortyOne).ctx 11).record.figures = .totalize 250 281474976710655 9000000 9250000 :=
  ⟨⟨rfl, rfl⟩, by decide⟩

theorem witness_ReachedTicksAndArmEdges :
    (let s := atTick (withCtx started 15 { armModeCtx .atTime with state := .armed }) 0 9;
      (s.ctx 15).state = .armed ∧ (s.ctx 15).config.armMode = .atTime ∧ (s.ctx 15).config.armTime = s.clock.timescale) ∧
      (∀ late ∈ [(0 : Tick), 249],
        let s := atTick (withCtx started 15 (ctxOf .frequency .gating)) late 9
        (s.ctx 15).config.kind = .frequency ∧ (s.ctx 15).state = .gating ∧ (s.clock.timescale - (s.ctx 15).live.expiryTick).toNat < 250) ∧
      (let s := atTick (withCtx started 15 (ctxOf .frequency .gating)) 250 9;
        250 ≤ (s.clock.timescale - (s.ctx 15).live.expiryTick).toNat) ∧
      ((gateFortyOne.ctx 11).config.kind = .totalize ∧ (gateFortyOne.ctx 11).config.gateMode = .time ∧
        (gateFortyOne.ctx 11).state = .gating ∧ (gateFortyOne.ctx 11).live.expiryTick = gateFortyOne.clock.timescale) ∧
      (let s := delivering 15 { armModeCtx .onEdge with state := .armed } 0 .rise (some info);
        Awaited s 15 0 ⟨0, .rise, 105, some info, 5, 4096 * 5 - 96, [15]⟩ ∧ (s.ctx 15).config.kind ≠ .none ∧
          (s.ctx 15).state = .armed ∧ (s.ctx 15).config.armMode = .onEdge ∧ (s.ctx 15).config.armChannel = 0 ∧
          (s.ctx 15).config.armSense.takes .rise = true ∧
          laterStamp (stampOf 105 info.fine) (stampOfTick (s.ctx 15).live.armTick) = true) := by
  unfold Awaited Arriving ListedOn AfterArm
  refine ⟨by decide, ?_, by decide, by decide, by decide⟩
  intro late h
  simp only [List.mem_cons, List.not_mem_nil, or_false] at h
  rcases h with rfl | rfl <;> decide

theorem witness_ReachedTicksAndArmEdges_ticks :
    (∀ m ∈ [SyncMode.off, .loadOnRise],
      ({ started with clock := { started.clock with syncMode := m } } : State).rstnLow = false ∧
        ({ started with clock := { started.clock with syncMode := m } } : State).clock.syncMode = m) ∧
      (atTick (delivering 15 (ctxOf .interval .starting) 0 .rise none) 105 254).rstnLow = false := by decide

/-- R28, R82: the tick at which an item is 249 ticks on its way and a watch has come to its deadline delivers the one and takes the other. -/
theorem test_tick_takes_what_is_due :
    let c := { ctxOf .interval .starting with live := { Live.zero with deadline := some 105 } }
    let s := after .coarseTick (atTick (delivering 15 c 0 .rise none) 105 254)
    s.bus.length = 0 ∧ (s.ctx 15).state = .idle := by decide +kernel

theorem witness_WatchExpiresAtItsDeadline :
    (∀ k ∈ [Kind.frequency, .interval],
      let c := ctxOf k .starting
      let s := atTick (withCtx started 15 { c with live := { Live.zero with deadline := some 0 } }) 0 9
      (s.ctx 15).live.deadline = some s.clock.timescale ∧ (s.ctx 15).config.kind = k ∧ (s.ctx 15).state = .starting) ∧
      (let s := atTick (withCtx started 15 { windowCtx .rise with state := .gating, live := { Live.zero with deadline := some 0 } }) 0 9;
        (s.ctx 15).live.deadline = some s.clock.timescale ∧ (s.ctx 15).config.kind = .totalize ∧
          (s.ctx 15).config.gateMode = .window ∧ (s.ctx 15).state = .gating) ∧
      (let s := atTick (withCtx started 15 manualCtx) 105 9;
        (s.ctx 15).live.deadline = some s.clock.timescale ∧ (s.ctx 15).config.kind = .totalize ∧
          (s.ctx 15).config.gateMode = .manual ∧ (s.ctx 15).state = .gating) := by decide

/-- An INTERVAL context in GATING at its deadline tick, with a stop delay of 250,000 ticks, its watch: the stop limit lies 1 su before that
tick. -/
def latestStop : Context :=
  let c := ctxOf .interval .gating
  { c with
    config := { c.config with channelA := 1, stopDelay := 250000 }
    live := { Live.zero with startStamp := 4096 * (105 - 250000) - 1, deadline := some 105 } }

theorem witness_UnawaitedItemsPass :
    (∀ st ∈ [CtxState.free, .idle, .settling], ∀ x ∈ [some info, none],
      let s := delivering 15 (ctxOf .frequency st) 0 .rise x
      Arriving s 15 0 ⟨0, .rise, 105, x, 5, 4096 * 5 - 96, [15]⟩ ∧ (s.ctx 15).state = st) ∧
      (∀ late ∈ [4, 5],
        let s := delivering 15 { ctxOf .frequency .starting with live := { Live.zero with armElapsed := late } } 0 .rise (some info)
        Arriving s 15 0 ⟨0, .rise, 105, some info, 5, 4096 * 5 - 96, [15]⟩ ∧
          (¬AfterArm s 15 ⟨0, .rise, 105, some info, 5, 4096 * 5 - 96, [15]⟩ ↔ late = 5)) ∧
      (∀ k ∈ [5, 6],
        let s := delivering 15 { ctxOf .frequency .gating with live := { Live.zero with fulfilElapsed := k } } 0 .rise none
        Arriving s 15 0 ⟨0, .rise, 105, none, 5, 4096 * 5 - 96, [15]⟩ ∧
          (¬NotBeforeFulfilment s 15 ⟨0, .rise, 105, none, 5, 4096 * 5 - 96, [15]⟩ ↔ k = 6)) ∧
      (∀ armTick ∈ [(104 : Tick), 105], ∀ x ∈ [some info, none], ∀ m ∈ [ArmMode.onEdge, .atTime],
        let c := armModeCtx m
        let s := delivering 15 { c with
          config := { c.config with channelA := 1 }, state := .armed, live := { Live.zero with armTick := armTick } } 0 .rise x
        (s.ctx 15).state = .armed ∧ (m = .onEdge → Awaited s 15 0 ⟨0, .rise, 105, x, 5, 4096 * 5 - 96, [15]⟩) ∧
          laterStamp (stampOf 105 info.fine) (stampOfTick (s.ctx 15).live.armTick) = decide (armTick = 104)) := by
  unfold Awaited Arriving ListedOn AfterArm NotBeforeFulfilment
  refine ⟨by decide, by decide, by decide, ?_⟩
  intro armTick ha x hx m hm
  simp only [List.mem_cons, List.not_mem_nil, or_false] at ha hx hm
  rcases ha with rfl | rfl <;> rcases hx with rfl | rfl <;> rcases hm with rfl | rfl <;> decide

/-- One running context for each way of letting pass an item of channel 0 and sense FALL, or a notice. -/
theorem witness_UnawaitedItemsPass_running :
    ∀ c ∈ [ctxOf .frequency .starting, ctxOf .frequency .closing, ctxOf .interval .starting, ctxOf .interval .gating,
        ctxOf .totalize .gating, manualCtx, { windowCtx .rise with state := .starting }],
      let s := delivering 15 c 0 .fall none
      Awaited s 15 0 ⟨0, .fall, 105, none, 5, 4096 * 5 - 96, [15]⟩ ∧ (s.ctx 15).config.senseA.takes .fall = false ∧
        (s.ctx 15).config.senseB.takes .fall = false ∧
        ((s.ctx 15).state = .starting ∨ (s.ctx 15).state = .gating ∨ (s.ctx 15).state = .closing) := by
  unfold Awaited Arriving ListedOn AfterArm; decide

/-- Items that may not arrive: of a tick not reached, and 8,193 su after an edge still on its way; at 8,192 su after it the item may. -/
theorem witness_UnawaitedItemsPass_early :
    (let s := atTick (delivering 15 (ctxOf .frequency .gating) 0 .rise none) 104 4;
      s.nextItem 15 0 = some ⟨0, .rise, 105, none, 5, 4096 * 5 - 96, [15]⟩ ∧ s.clock.elapsed < 5) ∧
      ∀ time ∈ [4096 * 5 - 96 - 8193, 4096 * 5 - 96 - 8192],
        let s := delivering 15 (ctxOf .frequency .gating) 0 .rise none
        let u : State := { s with bus := ⟨1, .rise, 102, none, 2, time, [15]⟩ :: s.bus }
        u.nextItem 15 0 = some ⟨0, .rise, 105, none, 5, 4096 * 5 - 96, [15]⟩ ∧
          (u.mayArrive 15 ⟨0, .rise, 105, none, 5, 4096 * 5 - 96, [15]⟩ = true ↔ time + 8192 = 4096 * 5 - 96) := by decide

/-- The stops of the deadline tick that wait for the watch: at the stop limit, after it, and a notice. -/
theorem witness_UnawaitedItemsPass_waits :
    ∀ x ∈ [some { info with fine := 1 }, some { info with fine := 0 }, none],
      let s := delivering 15 latestStop 0 .rise x
      s.nextItem 15 0 = some ⟨0, .rise, 105, x, 5, 4096 * 5 - 96, [15]⟩ ∧
        WaitsForExpiry s 15 ⟨0, .rise, 105, x, 5, 4096 * 5 - 96, [15]⟩ := by
  intro x h
  simp only [List.mem_cons, List.not_mem_nil, or_false] at h
  rcases h with rfl | rfl | rfl
  · exact ⟨rfl, rfl, rfl, rfl, rfl, by decide, rfl, rfl, .inl ⟨_, rfl, by decide, by decide⟩⟩
  · exact ⟨rfl, rfl, rfl, rfl, rfl, by decide, rfl, rfl, .inl ⟨_, rfl, by decide, by decide⟩⟩
  · exact ⟨rfl, rfl, rfl, rfl, rfl, by decide, rfl, rfl, .inr ⟨rfl, by decide⟩⟩

/-- R29: an item of the deadline tick that ends no interval arrives before the watch as well: a stop before the stop limit, one on role A. -/
theorem test_other_items_of_the_deadline_tick_arrive :
    (let s := delivering 15 latestStop 0 .rise (some { info with fine := 2 });
      s.mayArrive 15 ⟨0, .rise, 105, some { info with fine := 2 }, 5, 4096 * 5 - 96, [15]⟩ = true) ∧
      (let s := delivering 15 latestStop 1 .rise (some { info with fine := 0 });
        s.mayArrive 15 ⟨1, .rise, 105, some { info with fine := 0 }, 5, 4096 * 5 - 96, [15]⟩ = true) := by decide

/-- R12: an edge before a LOAD to a lower value, whose message comes after an ARM made under the new count, opens no gate. -/
theorem test_message_from_before_a_load_opens_no_gate :
    let edge := after (.inputEdge 0 .rise 0 0) (withCtx (atTick (serving started) 1000 600) 15 (ctxOf .frequency .idle))
    let armed := after (.arm 15 0) (after (.loadTimescale 500) (after .coarseTick edge))
    let s := after (.stampedEdgeMessage 15 0) armed
    armed.bus.length = 1 ∧ (armed.ctx 15).state = .starting ∧ laterStamp (stampOf 1001 0) (armed.ctx 15).live.fulfilStamp = true ∧
      s.bus.length = 0 ∧ (s.ctx 15).state = .starting := by decide +kernel

/-- A FREQUENCY context with a gate open, on channel 0. -/
def openGate (st : CtxState) (m : RunMode) : Context :=
  let c := ctxOf .frequency st
  { c with config := { c.config with runMode := m }, live := { Live.zero with startStamp := 4096, expiryTick := 104 } }

theorem witness_FrequencyGateOpens :
    (∀ sense ∈ [EdgeSense.rise, .fall], ∀ tested ∈ [true, false],
      let c := { ctxOf .frequency .starting with live := { Live.zero with testFulfilment := tested } }
      let s := delivering 15 c 0 sense (some info)
      Awaited s 15 0 ⟨0, sense, 105, some info, 5, 4096 * 5 - 96, [15]⟩ ∧ (s.ctx 15).config.kind = .frequency ∧
        (s.ctx 15).state = .starting ∧ (s.ctx 15).config.channelA = 0 ∧
        (s.ctx 15).config.senseA.takes sense = decide (sense = .rise) ∧ (s.ctx 15).live.testFulfilment = tested) ∧
      laterStamp (stampOf 105 info.fine) 429983 = true ∧ laterStamp (stampOf 105 info.fine) 429984 = false := by
  unfold Awaited Arriving ListedOn AfterArm; decide

theorem witness_FrequencyGateCloses :
    ∀ m ∈ [RunMode.single, .continuous], ∀ st ∈ [CtxState.gating, .closing], ∀ sense ∈ [EdgeSense.rise, .fall],
      let s := delivering 15 (openGate st m) 0 sense (some info)
      Awaited s 15 0 ⟨0, sense, 105, some info, 5, 4096 * 5 - 96, [15]⟩ ∧ (s.ctx 15).config.kind = .frequency ∧
        (s.ctx 15).state = st ∧ (s.ctx 15).config.runMode = m ∧ (s.ctx 15).config.channelA = 0 ∧
        (s.ctx 15).config.senseA.takes sense = decide (sense = .rise) ∧ laterTick 105 (s.ctx 15).live.expiryTick = true ∧
        laterTick 105 105 = false ∧ Passes (s.ctx 15) := by
  unfold Awaited Arriving ListedOn AfterArm Passes; decide

/-- A pattern that passes one gate and skips one, at its second position: the clauses on a gate not passed. -/
theorem witness_pattern_skips :
    ¬Passes { openGate .gating .single with config := { CtxConfig.zero with passCount := 1, skipCount := 1 }, position := 1 } := by
  unfold Passes; decide

/-- An INTERVAL context from channel 0 to channel 1 with a batch of two. -/
def batchCtx (st : CtxState) (opened : Bool) (count : BitVec 16) (b : Fin 8) : Context :=
  let c := ctxOf .interval st
  { c with
    config := { c.config with channelB := b, averaging := 2, runMode := .continuous }
    live := { Live.zero with batchOpen := opened, batchSize := 2, batchCount := count, startStamp := 429983 } }

theorem witness_NoticesMarkAndDrop :
    (∀ k ∈ [5, 6],
      let c := openGate .gating .single
      let s := delivering 15 { c with live := { c.live with fulfilElapsed := k } } 0 .rise none
      Awaited s 15 0 ⟨0, .rise, 105, none, 5, 4096 * 5 - 96, [15]⟩ ∧ (s.ctx 15).config.kind = .frequency ∧
        (s.ctx 15).state = .gating ∧ (s.ctx 15).config.channelA = 0 ∧ (s.ctx 15).config.senseA.takes .rise = true ∧
        (NotBeforeFulfilment s 15 ⟨0, .rise, 105, none, 5, 4096 * 5 - 96, [15]⟩ ↔ k = 5)) ∧
      (∀ f ∈ [(430079 : Stamp), 430080], ∀ k ∈ [5, 6],
        let s := delivering 15 { ctxOf .interval .gating with live := { Live.zero with startStamp := f, fulfilElapsed := k } } 0 .rise none
        Awaited s 15 0 ⟨0, .rise, 105, none, 5, 4096 * 5 - 96, [15]⟩ ∧ (s.ctx 15).config.kind = .interval ∧
          (s.ctx 15).state = .gating ∧ (s.ctx 15).config.channelB = 0 ∧ (s.ctx 15).config.senseB.takes .rise = true ∧
          decide ((s.ctx 15).live.fulfilElapsed ≤ 5) = decide (k = 5) ∧
          laterStamp (stampOfTick 105)
            ((s.ctx 15).live.startStamp + BitVec.ofNat 60 (4096 * (s.ctx 15).config.stopDelay.toNat)) = decide (f = 430079)) ∧
      (∀ f ∈ [(430079 : Stamp), 430080],
        let c := batchCtx .starting false 0 1
        let s := delivering 15 { c with live := { c.live with floor := f, fulfilElapsed := 5 } } 1 .rise none
        Awaited s 15 1 ⟨1, .rise, 105, none, 5, 4096 * 5 - 96, [15]⟩ ∧ (s.ctx 15).config.kind = .interval ∧
          (s.ctx 15).state = .starting ∧ (s.ctx 15).config.channelB = 1 ∧ (s.ctx 15).config.senseB.takes .rise = true ∧
          (s.ctx 15).config.channelA ≠ (s.ctx 15).config.channelB ∧ (s.ctx 15).live.fulfilElapsed ≤ 5 ∧
          laterStamp (stampOfTick 105) (s.ctx 15).live.floor = decide (f = 430079)) := by
  unfold Awaited Arriving ListedOn AfterArm NotBeforeFulfilment
  refine ⟨by decide, ?_, ?_⟩
  · intro f hf k hk
    simp only [List.mem_cons, List.not_mem_nil, or_false] at hf hk
    rcases hf with rfl | rfl <;> rcases hk with rfl | rfl <;> decide
  · intro f hf
    simp only [List.mem_cons, List.not_mem_nil, or_false] at hf
    rcases hf with rfl | rfl <;> decide

theorem witness_IntervalStarts :
    ∀ opened ∈ [true, false], ∀ f ∈ [(429983 : Stamp), 429984],
    ∀ held ∈ [none, some ⟨429984, 1, false⟩],
      let c := batchCtx .starting opened 0 1
      let s := delivering 15 { c with live := { c.live with floor := f, heldStop := held } } 0 .rise (some info)
      Awaited s 15 0 ⟨0, .rise, 105, some info, 5, 4096 * 5 - 96, [15]⟩ ∧ (s.ctx 15).config.kind = .interval ∧
        (s.ctx 15).state = .starting ∧ (s.ctx 15).config.channelA = 0 ∧ (s.ctx 15).config.senseA.takes .rise = true ∧
        laterStamp (stampOf 105 info.fine) (s.ctx 15).live.floor = decide (f = 429983) ∧ (s.ctx 15).live.heldStop = held ∧
        laterStamp 429984 (stampOf 105 info.fine) = false ∧ (s.ctx 15).live.heldNotice = none ∧
        (s.ctx 15).live.batchOpen = opened := by
  unfold Awaited Arriving ListedOn AfterArm
  intro opened ho f hf held hh
  simp only [List.mem_cons, List.not_mem_nil, or_false] at ho hf hh
  rcases ho with rfl | rfl <;> rcases hf with rfl | rfl <;> rcases hh with rfl | rfl <;> decide

/-- A held stop that forms the interval at its start, for an open batch and one opened there, completed by it or not. -/
theorem witness_IntervalStarts_held :
    ∀ opened ∈ [true, false], ∀ size ∈ [(1 : BitVec 16), 2],
      let c := batchCtx .starting opened 0 1
      let s := delivering 15 { c with
        config := { c.config with averaging := size }
        live := { c.live with batchSize := size, heldStop := some ⟨429985, 1, false⟩ } } 0 .rise (some info)
      Awaited s 15 0 ⟨0, .rise, 105, some info, 5, 4096 * 5 - 96, [15]⟩ ∧ (s.ctx 15).config.kind = .interval ∧
        (s.ctx 15).state = .starting ∧ (s.ctx 15).config.channelA = 0 ∧ (s.ctx 15).config.senseA.takes .rise = true ∧
        laterStamp (stampOf 105 info.fine) (s.ctx 15).live.floor = true ∧ (s.ctx 15).live.heldNotice = none ∧
        (s.ctx 15).config.channelA ≠ (s.ctx 15).config.channelB ∧ (s.ctx 15).live.heldStop = some ⟨429985, 1, false⟩ ∧
        laterStamp 429985 (stampOf 105 info.fine) = true ∧
        atLeastStamp 429985 (stampOf 105 info.fine + BitVec.ofNat 60 (4096 * (s.ctx 15).config.stopDelay.toNat)) = true ∧
        (s.ctx 15).live.batchOpen = opened ∧ Passes (s.ctx 15) := by
  unfold Awaited Arriving ListedOn AfterArm Passes
  intro opened ho size hs
  simp only [List.mem_cons, List.not_mem_nil, or_false] at ho hs
  rcases ho with rfl | rfl <;> rcases hs with rfl | rfl <;> decide

/-- A held notice that drops the interval at its start. -/
theorem witness_IntervalStarts_drops :
    ∀ opened ∈ [true, false],
      let c := batchCtx .starting opened 0 1
      let s := delivering 15 { c with live := { c.live with floor := 429983, heldNotice := some 105 } } 0 .rise (some info)
      Awaited s 15 0 ⟨0, .rise, 105, some info, 5, 4096 * 5 - 96, [15]⟩ ∧ (s.ctx 15).config.kind = .interval ∧
        (s.ctx 15).state = .starting ∧ (s.ctx 15).config.channelA = 0 ∧ (s.ctx 15).config.senseA.takes .rise = true ∧
        laterStamp (stampOf 105 info.fine) (s.ctx 15).live.floor = true ∧
        (s.ctx 15).config.channelA ≠ (s.ctx 15).config.channelB ∧ (s.ctx 15).live.heldNotice = some 105 ∧
        laterStamp (stampOfTick 105)
          (stampOf 105 info.fine + BitVec.ofNat 60 (4096 * (s.ctx 15).config.stopDelay.toNat)) = true ∧
        laterStamp (stampOf 105 info.fine) (stampOfTick 105) = false ∧ (s.ctx 15).live.batchOpen = opened := by
  unfold Awaited Arriving ListedOn AfterArm; decide

theorem witness_IntervalStops :
    ∀ count ∈ [(0 : BitVec 16), 1], ∀ ch ∈ [(0 : Fin 8), 1], ∀ m ∈ [RunMode.single, .continuous],
      let c := batchCtx .gating true count ch
      let s := delivering 15 { c with config := { c.config with runMode := m } } ch .rise (some info)
      Awaited s 15 ch ⟨ch, .rise, 105, some info, 5, 4096 * 5 - 96, [15]⟩ ∧ (s.ctx 15).config.kind = .interval ∧
        (s.ctx 15).state = .gating ∧ (s.ctx 15).config.channelB = ch ∧ (s.ctx 15).config.senseB.takes .rise = true ∧
        laterStamp (stampOf 105 info.fine) (s.ctx 15).live.startStamp = true ∧
        atLeastStamp (stampOf 105 info.fine)
          ((s.ctx 15).live.startStamp + BitVec.ofNat 60 (4096 * (s.ctx 15).config.stopDelay.toNat)) = true ∧
        (s.ctx 15).live.batchOpen = true ∧ (s.ctx 15).live.batchCount = count ∧ (s.ctx 15).live.batchSize = 2 ∧
        (s.ctx 15).config.runMode = m := by
  intro count hc ch hch m hm
  simp only [List.mem_cons, List.not_mem_nil, or_false] at hc hch hm
  rcases hc with rfl | rfl <;> rcases hch with rfl | rfl <;> rcases hm with rfl | rfl <;>
     (unfold Awaited Arriving ListedOn AfterArm; decide)

/-- The stops that the second part of the statement lets pass or holds: at the start, before the stop limit, in STARTING by the floor. -/
theorem witness_IntervalStops_others :
    (∀ f ∈ [(429984 : Stamp), 429983],
      let c := batchCtx .gating true 0 1
      let s := delivering 15 { c with
        config := { c.config with stopDelay := 1 }, live := { c.live with startStamp := f } } 1 .rise (some info)
      Awaited s 15 1 ⟨1, .rise, 105, some info, 5, 4096 * 5 - 96, [15]⟩ ∧ (s.ctx 15).config.kind = .interval ∧
        (s.ctx 15).state = .gating ∧ (s.ctx 15).config.channelB = 1 ∧ (s.ctx 15).config.senseB.takes .rise = true ∧
        (laterStamp (stampOf 105 info.fine) (s.ctx 15).live.startStamp = false ∨
          atLeastStamp (stampOf 105 info.fine)
            ((s.ctx 15).live.startStamp + BitVec.ofNat 60 (4096 * (s.ctx 15).config.stopDelay.toNat)) = false)) ∧
      (∀ f ∈ [(429983 : Stamp), 429984],
        let c := batchCtx .starting false 0 1
        let s := delivering 15 { c with live := { c.live with floor := f } } 1 .rise (some info)
        Awaited s 15 1 ⟨1, .rise, 105, some info, 5, 4096 * 5 - 96, [15]⟩ ∧ (s.ctx 15).config.kind = .interval ∧
          (s.ctx 15).state = .starting ∧ (s.ctx 15).config.channelB = 1 ∧ (s.ctx 15).config.senseB.takes .rise = true ∧
          (s.ctx 15).config.channelA ≠ 1 ∧ laterStamp (stampOf 105 info.fine) (s.ctx 15).live.floor = decide (f = 429983)) := by
  unfold Awaited Arriving ListedOn AfterArm
  refine ⟨?_, ?_⟩
  all_goals
    intro f hf
    simp only [List.mem_cons, List.not_mem_nil, or_false] at hf
    rcases hf with rfl | rfl <;> decide

/-- The pulse-width form: a stop of sense FALL on the channel of a start of sense RISE, held in STARTING. -/
theorem witness_IntervalStops_shared :
    let c := batchCtx .starting false 0 0
    let s := delivering 15 { c with config := { c.config with senseB := .fall } } 0 .fall (some info)
    Awaited s 15 0 ⟨0, .fall, 105, some info, 5, 4096 * 5 - 96, [15]⟩ ∧ (s.ctx 15).config.kind = .interval ∧
      (s.ctx 15).state = .starting ∧ (s.ctx 15).config.channelB = 0 ∧ (s.ctx 15).config.channelA = 0 ∧
      (s.ctx 15).config.senseB.takes .fall = true ∧ (s.ctx 15).config.senseA.takes .fall = false ∧
      laterStamp (stampOf 105 info.fine) (s.ctx 15).live.floor = true := by
  unfold Awaited Arriving ListedOn AfterArm; decide

theorem witness_CrossingItemsGiveOneInterval :
    let a : Message := ⟨.rise, 8192, 1, 1, false, 2⟩
    let b : Message := ⟨.rise, 8193, 1, 1, false, 2⟩
    ∀ opened ∈ [true, false], ∀ size ∈ [(1 : BitVec 16), 2],
      let c := batchCtx .starting opened 0 1
      let s := withCtx started 15 { c with config := { c.config with averaging := size }, live := { c.live with batchSize := size } }
      (s.ctx 15).config.kind = .interval ∧ (s.ctx 15).state = .starting ∧ (s.ctx 15).config.channelA ≠ (s.ctx 15).config.channelB ∧
        (s.ctx 15).live.heldStop = none ∧ (s.ctx 15).live.heldNotice = none ∧ (s.ctx 15).config.senseA.takes a.sense = true ∧
        (s.ctx 15).config.senseB.takes b.sense = true ∧ laterStamp a.stamp (s.ctx 15).live.floor = true ∧
        laterStamp b.stamp (s.ctx 15).live.floor = true ∧ laterStamp b.stamp a.stamp = true ∧
        atLeastStamp b.stamp (a.stamp + BitVec.ofNat 60 (4096 * (s.ctx 15).config.stopDelay.toNat)) = true ∧
        (s.ctx 15).live.batchOpen = opened ∧
        (if opened then (s.ctx 15).live.batchSize else (s.ctx 15).config.averaging) = size ∧ Passes (s.ctx 15) := by
  unfold Passes
  intro a b opened ho size hs
  simp only [List.mem_cons, List.not_mem_nil, or_false] at ho hs
  rcases ho with rfl | rfl <;> rcases hs with rfl | rfl <;> decide

/-- R115, case 2: a stop that comes before its start is held, and the start then forms the interval of 1 su. -/
theorem test_held_stop_forms_the_interval :
    let s := withCtx started 15 (batchCtx .starting false 0 1)
    let t := (s.takeMessage 15 ⟨.rise, 8193, 1, 1, false, 2⟩ .b).takeMessage 15 ⟨.rise, 8192, 1, 1, false, 2⟩ .a
    (t.ctx 15).live.batchCount = 1 ∧ (t.ctx 15).live.batchSum = 1 ∧ (t.ctx 15).state = .starting := by decide

theorem witness_WindowOpensAndCloses :
    ∀ st ∈ [CtxState.starting, .gating], ∀ sense ∈ [EdgeSense.rise, .fall], ∀ tested ∈ [true, false], ∀ x ∈ [some info, none],
      let s := delivering 15 { windowCtx .rise with state := st, live := { Live.zero with testFulfilment := tested } } 0 sense x
      Awaited s 15 0 ⟨0, sense, 105, x, 5, 4096 * 5 - 96, [15]⟩ ∧ (s.ctx 15).config.kind = .totalize ∧
        (s.ctx 15).config.gateMode = .window ∧ (s.ctx 15).config.channelB = 0 ∧ (s.ctx 15).state = st ∧
        (s.ctx 15).config.senseB = .rise ∧ (s.ctx 15).live.testFulfilment = tested ∧
        laterStamp (stampOf 105 info.fine) (s.ctx 15).live.fulfilStamp = true ∧ laterTick 105 (s.ctx 15).live.fulfilTick = true := by
  unfold Awaited Arriving ListedOn AfterArm; decide

/-- Notices of an edge after the fulfilment tick, and of that tick. -/
theorem witness_WindowOpensAndCloses_notices :
    ∀ k ∈ [5, 6], ∀ st ∈ [CtxState.starting, .gating],
      let s := delivering 15 { windowCtx .rise with state := st, live := { Live.zero with fulfilElapsed := k } } 0 .fall none
      Awaited s 15 0 ⟨0, .fall, 105, none, 5, 4096 * 5 - 96, [15]⟩ ∧ (s.ctx 15).config.kind = .totalize ∧
        (s.ctx 15).config.gateMode = .window ∧ (s.ctx 15).config.channelB = 0 ∧ (s.ctx 15).state = st ∧
        (NotBeforeFulfilment s 15 ⟨0, .fall, 105, none, 5, 4096 * 5 - 96, [15]⟩ ↔ k = 5) := by
  unfold Awaited Arriving ListedOn AfterArm NotBeforeFulfilment; decide

/-- R93, R119, R131 (log 27): a notice of the fulfilment tick, after an edge of that tick, enters a tally, drops an interval, closes a window. -/
theorem test_notice_of_the_fulfilment_tick_acts :
    let w := delivering 15 { windowCtx .rise with state := .gating, live := { Live.zero with fulfilElapsed := 5 } } 0 .fall none
    let c := openGate .gating .single
    let f := delivering 15 { c with config := { c.config with senseA := .any }, live := { c.live with fulfilElapsed := 5 } } 0 .fall none
    let l := { Live.zero with startStamp := 430079, fulfilStamp := 430070, fulfilElapsed := 5 }
    let d := delivering 15 { ctxOf .interval .gating with live := l } 0 .rise none
    ((after (.unstampedEdgeNotice 15 0) w).ctx 15).state = .idle ∧ ((after (.unstampedEdgeNotice 15 0) f).ctx 15).live.edgeTally = 1 ∧
      ((after (.unstampedEdgeNotice 15 0) d).ctx 15).state = .starting ∧
      ((after (.unstampedEdgeNotice 15 0) d).ctx 15).live.flags.blind = true := by decide

/-- An item before the arm fulfilment, for the window's own clause on it. -/
theorem witness_WindowOpensAndCloses_not_later :
    let c := windowCtx .rise
    let s := delivering 15 { c with
      state := .starting, live := { Live.zero with testFulfilment := true, fulfilTick := 105, fulfilStamp := 430080 } } 0 .rise (some info)
    (s.ctx 15).state = .starting ∧ (s.ctx 15).live.testFulfilment = true ∧
      laterStamp (stampOf 105 info.fine) (s.ctx 15).live.fulfilStamp = false ∧ laterTick 105 (s.ctx 15).live.fulfilTick = false := by
  decide

theorem witness_FrequencySpanExceedsGateTime :
    ∀ g ∈ [(1 : BitVec 40), 100000000000],
      let c := { ctxOf .frequency .gating with config := { CtxConfig.zero with gateTime := g } }
      1 ≤ c.config.gateTime.toNat ∧ c.config.gateTime.toNat ≤ 100000000000 ∧
        laterTick (tickOfStamp (4096 * (BitVec.ofNat 60 (g.toNat * 250) + 1))) (tickOfStamp 0 + gateLength c) = true := by
  intro g hg
  simp only [List.mem_cons, List.not_mem_nil, or_false] at hg
  rcases hg with rfl | rfl <;> decide

/-- An open gate of a gate time, whose expiry is the tick before the item of `delivering`. -/
def gateOf (g : Nat) : Context :=
  let c := ctxOf .frequency .closing
  { c with live := { Live.zero with startStamp := stampOfTick (104 - BitVec.ofNat 48 (250 * g)), expiryTick := 104 } }

theorem witness_FrequencySpanExceedsGateTime_closes :
    ∀ g ∈ [1, 100000000000],
      let s := delivering 15 (gateOf g) 0 .rise (some info)
      Awaited s 15 0 ⟨0, .rise, 105, some info, 5, 4096 * 5 - 96, [15]⟩ ∧ (s.ctx 15).config.kind = .frequency ∧
        (s.ctx 15).state = .closing ∧ (s.ctx 15).config.channelA = 0 ∧ (s.ctx 15).config.senseA.takes .rise = true ∧
        laterTick 105 (s.ctx 15).live.expiryTick = true ∧ Passes (s.ctx 15) ∧
        (s.ctx 15).live.expiryTick = tickOfStamp (s.ctx 15).live.startStamp + BitVec.ofNat 48 (250 * g) := by
  unfold Awaited Arriving ListedOn AfterArm Passes
  intro g hg
  simp only [List.mem_cons, List.not_mem_nil, or_false] at hg
  rcases hg with rfl | rfl <;> decide

theorem witness_FrequencySpanExceedsGateTime_kept :
    let s : State := { delivering 15 (gateOf 1) 0 .rise (some info) with pending := [.stampedEdgeMessage 15 0] }
    FrequencyGatesLawful s ∧ step s = .next (after (.stampedEdgeMessage 15 0) { s with pending := [] }) := by
  refine ⟨fun n h => ?_, rfl⟩
  by_cases hn : n = 15
  · subst hn
    exact ⟨by decide, fun _ => ⟨1, by decide, by decide, by decide⟩⟩
  · have : ∀ m : Fin 16, m ≠ 15 → ((delivering 15 (gateOf 1) 0 .rise (some info)).ctx m).config.kind = .none := by decide
    have h' := this n hn
    exact absurd (h.symm.trans h') (by decide)

theorem witness_QuotientUnitTakesAndPosts :
    let g : RawGate := ⟨.frequency 1 1 0, Flags.clear, 1⟩
    let c := { ctxOf .frequency .settling with slot := some g }
    let s : State := { withCtx started 15 c with quotient := ⟨[15], none⟩ }
    (s.quotient.work = none ∧ s.quotient.queue = [15] ∧ (s.ctx 15).slot = some g) ∧
      (∀ v ∈ [true, false],
        let u : State := { withCtx started 15 (ctxOf .frequency .settling) with quotient := ⟨[], some ⟨15, g, v⟩⟩ }
        u.quotient.work = some ⟨15, g, v⟩ ∧ (u.ctx 15).state = .settling ∧ (u.ctx 15).slot = none) := by decide

theorem witness_QuotientsRoundHalfUp :
    (1 : Stamp) ≠ 0 ∧ (2 ^ 64 - 1) * (1 : Stamp).toNat < (1 : EdgeCount).toNat * 1024000000000000000000 ∧
      (1 : EdgeCount).toNat * 1024000000000000000000 ≤ (2 ^ 64 - 1) * (4096 : Stamp).toNat ∧
      (2 : BitVec 16) ≠ 0 ∧ (2 : BitVec 16).toNat * (3 : Stamp).toNat ≤ (7 : BitVec 80).toNat ∧
      (7 : BitVec 80).toNat ≤ (2 : BitVec 16).toNat * (4 : Stamp).toNat := by decide

theorem witness_SettingsClampedAndReturned :
    InFrame inFrame ∧ (19 : Byte).toNat = (19 : Fin 20).val := ⟨⟨rfl, rfl⟩, rfl⟩

theorem witness_ClaimTakesMostUrgentSource :
    InFrame inFrame ∧
      (∀ id : Fin 20, ¬(inFrame.outstanding id ≠ 0 ∧ inFrame.attention.threshold ≤ (inFrame.source id).priority)) ∧
      (let s := inFrame.setSource 19 ⟨1, 3, 1⟩;
        InFrame s ∧ s.outstanding 19 ≠ 0 ∧ s.attention.threshold ≤ (s.source 19).priority) :=
  ⟨⟨rfl, rfl⟩, by decide, ⟨rfl, rfl⟩, by decide⟩

/-- A fresh record under a mask with the place of RESULT enabled, and under one without it. -/
theorem witness_ClaimTakesMostUrgentSource_result :
    ∀ mask ∈ [(0b1111 : BitVec 4), 0b1110],
      let s := (inFrame.modCtx 15 fun c => { c with record := { c.record with fresh := true } }).setSource 15 ⟨1, mask, 0⟩
      AttentionLawful s ∧ (s.ctx 15).record.fresh = true ∧ (s.source (contextSource 15)).mask = mask := by
  unfold AttentionLawful; decide

theorem witness_FramesDecodeToTheirCommands :
    (Instr.setSync 255 281474976710655).wellFormed = true ∧
      encodeFrame (.setSync 255 281474976710655) = some [0x0A, 0xFF, 0xFF, 0xFF, 0xFF, 0xFF, 0xFF, 0xFF] ∧ 7 < 8 := by decide

/-- A part with a context settling, its gate in the unit, and a command waiting. -/
def settlingPart : State :=
  { withCtx started 15 (ctxOf .frequency .settling) with
    quotient := ⟨[], some ⟨15, ⟨.frequency 1 4096 0, Flags.clear, 1⟩, false⟩⟩
    pending := [.quotientComplete] }

theorem witness_QueueAndSettlingKept :
    QueueMatchesSlots settlingPart ∧ PendingMatchesStates settlingPart ∧
      step settlingPart = .next (after .quotientComplete { settlingPart with pending := [] }) :=
  ⟨by unfold QueueMatchesSlots; decide, by unfold PendingMatchesStates; decide, rfl⟩

theorem witness_RecordsAndAttentionKept :
    OverrunOnlyWhileFresh settlingPart ∧ AttentionLawful settlingPart ∧
      step settlingPart = .next (after .quotientComplete { settlingPart with pending := [] }) :=
  ⟨by unfold OverrunOnlyWhileFresh; decide, by unfold AttentionLawful; decide, rfl⟩

/-- A long calibration about to complete on a table of zeros. -/
def completing : State :=
  let s := collected (running started 7 .long 65536 0) (Vector.replicate 256 256)
  { s with engine := { s.engine with tables := Vector.replicate 8 (Vector.replicate 256 0) }, pending := [.longCalibrationComplete] }

theorem witness_TablesKeepRising :
    TablesRise completing ∧ step completing = .next (after .longCalibrationComplete { completing with pending := [] }) :=
  ⟨fun c i j _ => by simp [completing], rfl⟩

theorem witness_ServiceLawKept :
    let s : State := { withCtx (serving started) 15 (ctxOf .frequency .gating) with pending := [.calibrate 255 1] }
    ListsMatchConfigurations s ∧ OneEntryPerChannel s ∧ InitLawful s ∧ ActiveInService s ∧
      step s = .next (after (.calibrate 255 1) { s with pending := [] }) :=
  ⟨by unfold ListsMatchConfigurations; decide, by unfold OneEntryPerChannel; decide, by unfold InitLawful; decide,
    by unfold ActiveInService; decide, rfl⟩

end Sys2Proof.Tests
end

section
/-! The tick of a stamp, the stamp of a tick and the order of both (spec/01_timescale_reference_and_stamps.md, section 1.5), each as a
fact about numbers, and the obligation O19 assembled from them. -/

namespace Sys2Proof.Machine

/-- The difference of two words as the statements spell it, the subtrahend last so that nothing falls below zero (R13). -/
theorem toNat_sub_eq_mod {w : Nat} (b a : BitVec w) : (b - a).toNat = (b.toNat + 2 ^ w - a.toNat) % 2 ^ w := by
  have ha := a.isLt
  rw [BitVec.toNat_sub, show 2 ^ w - a.toNat + b.toNat = b.toNat + 2 ^ w - a.toNat by omega]

/-- 4096·T is below 2^60, so that no bit is lost in the shift (R12). -/
@[simp] theorem toNat_stampOfTick (k : Tick) : (stampOfTick k).toNat = 4096 * k.toNat := by
  have hk := k.isLt
  simp only [stampOfTick, BitVec.toNat_shiftLeft, BitVec.toNat_setWidth, Nat.shiftLeft_eq]
  omega

theorem toNat_stampOf (k : Tick) (f : BitVec 12) :
    (stampOf k f).toNat = (4096 * k.toNat + 2 ^ 60 - f.toNat) % 2 ^ 60 := by
  have hf : (f.setWidth 60).toNat = f.toNat := BitVec.toNat_setWidth_of_le (by decide)
  rw [stampOf, toNat_sub_eq_mod, toNat_stampOfTick, hf]

/-- The shift of the stamp raised by 4095 is a division rounded up; of the last 4095 stamps the word sum wraps, and the quotient 2^48
stands for tick 0. -/
theorem toNat_tickOfStamp (x : Stamp) : (tickOfStamp x).toNat = (x.toNat + 4095) / 4096 % 2 ^ 48 := by
  have hx := x.isLt
  simp only [tickOfStamp, BitVec.toNat_setWidth, BitVec.toNat_ushiftRight, BitVec.toNat_add, Nat.shiftRight_eq_div_pow,
    BitVec.reduceToNat]
  omega

/-- The coarse tick of a stamp is the smallest tick at or above it, modulo 2^48 (R12). -/
theorem tickOfStamp_least (x : Stamp) :
    ∃ k : Nat, x.toNat ≤ 4096 * k ∧ (∀ j, x.toNat ≤ 4096 * j → k ≤ j) ∧ (tickOfStamp x).toNat = k % 2 ^ 48 :=
  ⟨(x.toNat + 4095) / 4096, by omega, fun j hj => by omega, toNat_tickOfStamp x⟩

theorem laterStamp_iff (b a : Stamp) : laterStamp b a = true ↔ 0 < (b - a).toNat ∧ (b - a).toNat < 2 ^ 59 := by
  simp only [laterStamp, Bool.and_eq_true, decide_eq_true_eq]

theorem laterTick_iff (b a : Tick) : laterTick b a = true ↔ 0 < (b - a).toNat ∧ (b - a).toNat < 2 ^ 47 := by
  simp only [laterTick, Bool.and_eq_true, decide_eq_true_eq]

/-- The difference that `atLeastStamp` admits beside those of `laterStamp` is 0, which only equal stamps have. -/
theorem atLeastStamp_iff (b a : Stamp) : atLeastStamp b a = true ↔ laterStamp b a = true ∨ b = a := by
  have hzero : (b - a).toNat = 0 ↔ b = a := by
    rw [← sub_eq_zero (a := b), BitVec.toNat_eq]
    rfl
  rw [laterStamp_iff, ← hzero, atLeastStamp, decide_eq_true_eq]
  omega

/-- The differences of two words in either direction add up to the modulus, so they do not both lie in its lower half. -/
theorem not_both_sub_lt_half {w : Nat} (a b : BitVec (w + 1)) (hpos : 0 < (b - a).toNat) (hba : (b - a).toNat < 2 ^ w) :
    2 ^ w < (a - b).toNat := by
  rw [← neg_sub b a, BitVec.toNat_neg, Nat.mod_eq_of_lt (by omega), Nat.pow_succ]
  omega

/-- Of two stamps at most one is later than the other (R13). -/
theorem laterStamp_asymm {a b : Stamp} (hba : laterStamp b a = true) : laterStamp a b ≠ true := by
  obtain ⟨hpos, hlt⟩ := (laterStamp_iff b a).mp hba
  exact fun hab => absurd ((laterStamp_iff a b).mp hab).2 (Nat.lt_asymm (not_both_sub_lt_half a b hpos hlt))

/-- Of two ticks at most one is later than the other (R13). -/
theorem laterTick_asymm {a b : Tick} (hba : laterTick b a = true) : laterTick a b ≠ true := by
  obtain ⟨hpos, hlt⟩ := (laterTick_iff b a).mp hba
  exact fun hab => absurd ((laterTick_iff a b).mp hab).2 (Nat.lt_asymm (not_both_sub_lt_half a b hpos hlt))

/-- Settles O19, clause by clause: the stamp of an edge and its own tick back, the least tick of a stamp, the stamp of a tick, and the
order of stamps and of ticks. -/
theorem stampsAndTicks : Obligations.StampsAndTicks := by
  refine ⟨fun k f => ⟨toNat_stampOf k f, tickOfStamp_stampOf k f⟩, tickOfStamp_least, toNat_stampOfTick, fun a b => ?stamps,
    fun a b => ?ticks⟩
  case stamps =>
    refine ⟨?_, atLeastStamp_iff b a, fun ⟨hab, hba⟩ => laterStamp_asymm hba hab⟩
    rw [laterStamp_iff, toNat_sub_eq_mod]
    omega
  case ticks =>
    refine ⟨?_, fun ⟨hab, hba⟩ => laterTick_asymm hba hab⟩
    rw [laterTick_iff, toNat_sub_eq_mod]
    omega

end Sys2Proof.Machine
end

section
/-! CONFIGURE CHANNEL (spec/02_input_channels.md, section 2.1): what its operand bytes name, what each check of R17 looks at, the answer
of each line of R17, and the obligation O20 assembled from them. -/

namespace Sys2Proof.Machine

open Sys2Proof.Safety

/-! ### The operands -/

/-- OFF and ON are the only settings a byte names (R17). -/
theorem onOffOf_of_le {b : Byte} (h : 2 ≤ b.toNat) : onOffOf b = none := by
  rw [onOffOf, if_neg (by bv_omega), if_neg (by bv_omega)]

theorem onOffOf_of_lt {b : Byte} (h : b.toNat < 2) : onOffOf b = some (decide (b = 1)) := by
  obtain rfl | rfl : b = 0 ∨ b = 1 := by bv_omega
  all_goals rfl

/-- RISE, FALL and BOTH are the only polarities a byte names (R17). -/
theorem polarityOf_of_le {b : Byte} (h : 3 ≤ b.toNat) : polarityOf b = none := by
  rw [polarityOf, if_neg (by bv_omega), if_neg (by bv_omega), if_neg (by bv_omega)]

theorem exists_polarityOf_of_lt {b : Byte} (h : b.toNat < 3) : ∃ p, polarityOf b = some p := by
  obtain rfl | rfl | rfl : b = 0 ∨ b = 1 ∨ b = 2 := by bv_omega
  · exact ⟨.rise, rfl⟩
  · exact ⟨.fall, rfl⟩
  · exact ⟨.both, rfl⟩

theorem toNat_clampHoldoff (h : BitVec 16) : (clampHoldoff h).toNat = min 4095 h.toNat := by
  unfold clampHoldoff
  split
  · next hgt => exact (Nat.min_eq_left (Nat.le_of_lt hgt)).symm
  · next hle =>
    rw [BitVec.toNat_setWidth, Nat.mod_eq_of_lt (by omega), Nat.min_eq_right (Nat.le_of_not_lt hle)]

/-! ### The checks on the part -/

theorem holdsChannels_iff (s : State) (n : Fin 16) :
    (s.ctx n).state.holdsChannels = true ↔ Active s n ∨ (s.ctx n).state = .settling := by
  simp only [CtxState.holdsChannels, Bool.or_eq_true, decide_eq_true_eq, active_iff]

/-- The test of check 3 finds a context exactly when one holds the channel (R17). -/
theorem channelHeld_iff (s : State) (c : Fin 8) : s.channelHeld c = true ↔ HeldByContext s c := by
  simp only [State.channelHeld, List.any_eq_true, holdsChannels_iff, HeldByContext]

/-! ### What a taken command sets -/

/-- The channel holds the values given, counters at 0 and empty histories (R18). -/
@[simp] theorem State.channel_configure_self (s : State) (c : Fin 8) (en : Bool) (pol : Polarity) (h : BitVec 12) :
    (s.configure c en pol h).channel c = ⟨en, pol, h, 0, 0, none, none, []⟩ :=
  s.channel_setChannel_self c _

@[simp] theorem State.channel_configure_of_ne {s : State} {c d : Fin 8} (hd : d ≠ c) (en : Bool) (pol : Polarity) (h : BitVec 12) :
    (s.configure c en pol h).channel d = s.channel d :=
  s.channel_setChannel_of_ne hd _

/-- Nothing but the channels' records is touched (R18). -/
theorem State.configure_frame (s : State) (c : Fin 8) (en : Bool) (pol : Polarity) (h : BitVec 12) :
    { s.configure c en pol h with channels := s.channels } = s := rfl

/-! ### The answers, line by line of R17 -/

section
variable {s : State} {k en pol : Byte} {h : BitVec 16} {c : Fin 8} {on : Bool} {p : Polarity}

theorem exec_configureChannel_of_range (hs : InFrame s) (hk : indexOf 8 k = none) :
    exec (.configureChannel k en pol h) s = .next (refusedWith 5 s .range) := by
  simp only [exec, execConfigureChannel, State.runCommand_of_inFrame hs, hk, Answer.refuse, refusedWith]

theorem exec_configureChannel_of_badField (hs : InFrame s) (hk : indexOf 8 k = some c)
    (hbad : onOffOf en = none ∨ polarityOf pol = none) :
    exec (.configureChannel k en pol h) s = .next (refusedWith 5 s .badField) := by
  simp only [exec, execConfigureChannel, State.runCommand_of_inFrame hs, hk, refusedWith]
  rcases hbad with hen | hpol
  · simp only [hen, Answer.refuse]
  · cases onOffOf en with
    | none => simp only [Answer.refuse]
    | some on => simp only [hpol, Answer.refuse]

theorem exec_configureChannel_of_inUse (hs : InFrame s) (hk : indexOf 8 k = some c) (hen : onOffOf en = some on)
    (hpol : polarityOf pol = some p) (huse : HeldByContext s c ∨ s.engine.phase c ≠ .none) :
    exec (.configureChannel k en pol h) s = .next (refusedWith 5 s .inUse) := by
  rw [← channelHeld_iff] at huse
  simp only [exec, execConfigureChannel, State.runCommand_of_inFrame hs, hk, hen, hpol, if_pos huse, Answer.refuse, refusedWith]

theorem exec_configureChannel_taken (hs : InFrame s) (hk : indexOf 8 k = some c) (hen : onOffOf en = some on)
    (hpol : polarityOf pol = some p) (hheld : ¬HeldByContext s c) (hphase : s.engine.phase c = .none) :
    exec (.configureChannel k en pol h) s =
      .next (answered 5 (s.configure c on p (clampHoldoff h)) (if 4095 < h.toNat then .clamped else .ok) [] .none) := by
  have hfree : ¬(s.channelHeld c = true ∨ s.engine.phase c ≠ .none) := by
    rw [channelHeld_iff]
    exact not_or.mpr ⟨hheld, not_not.mpr hphase⟩
  simp only [exec, execConfigureChannel, State.runCommand_of_inFrame hs, hk, hen, hpol, if_neg hfree, Answer.taken]

end

/-- Settles O20: the channel number first, then the lines of R17 in their order on the channel it names, each by its own equation. -/
theorem configureChannelJudged : Obligations.ConfigureChannelJudged := by
  refine ⟨fun s k en pol h hs hk => exec_configureChannel_of_range hs (indexOf_of_le hk), fun s k en pol h c hs hk => ?_⟩
  have hk := indexOf_of_eq hk
  refine ⟨fun hbad => exec_configureChannel_of_badField hs hk (hbad.imp onOffOf_of_le polarityOf_of_le), fun hen hpol => ?_⟩
  have hen := onOffOf_of_lt hen
  obtain ⟨p, hp⟩ := exists_polarityOf_of_lt hpol
  have named (q : Polarity) (hq : polarityOf pol = some q) : p = q := Option.some.inj (hp.symm.trans hq)
  refine ⟨exec_configureChannel_of_inUse hs hk hen hp, fun hheld hphase => ⟨_, exec_configureChannel_taken hs hk hen hp hheld hphase,
    s.configure_frame c _ p _, fun d hd => State.channel_configure_of_ne hd _ p _, ?_⟩⟩
  simp only [State.channel_configure_self, decide_eq_true_eq, toNat_clampHoldoff, true_and, and_true]
  exact ⟨fun h0 => named .rise (h0 ▸ rfl), fun h1 => named .fall (h1 ▸ rfl), fun h2 => named .both (h2 ▸ rfl)⟩

end Sys2Proof.Machine
end

section
/-! The calibration engine (spec/03_interpolator_calibration.md): which phase its entries give a channel, what the drift is, and how the
judged end of a calibration leaves the engine. CALIBRATE and both completions are settled from these facts. -/

namespace Sys2Proof.Machine

/-! ### The queue and the phase -/

theorem Engine.queued_iff (e : Engine) (c : Fin 8) (k : CalKind) : e.queued c k = true ↔ ⟨c, k⟩ ∈ e.queue := by
  simp only [Engine.queued, List.any_eq_true, Bool.and_eq_true, decide_eq_true_eq]
  constructor
  · rintro ⟨x, hx, rfl, rfl⟩
    exact hx
  · exact fun h => ⟨_, h, rfl, rfl⟩

/-- A waiting LONG entry shows in the phase unless the channel's long calibration runs (R37). -/
theorem Engine.long_not_mem_queue {e : Engine} {c : Fin 8} (hwait : e.phase c ≠ .longWait) (hrun : e.phase c ≠ .longRun) :
    ⟨c, .long⟩ ∉ e.queue := by
  rw [← e.queued_iff]
  intro hq
  cases hr : e.runs c .long
  · exact hwait (by simp [Engine.phase, hr, hq])
  · exact hrun (by simp [Engine.phase, hr])

/-- An idle engine runs nothing on any channel. -/
theorem Engine.runs_of_idle {e : Engine} (h : e.running = none) (c : Fin 8) (k : CalKind) : e.runs c k = false := by
  rw [Engine.runs, h]

theorem Engine.phase_longWait_of_idle {e : Engine} {c : Fin 8} (h : e.running = none) (hq : ⟨c, .long⟩ ∈ e.queue) :
    e.phase c = .longWait := by
  simp [Engine.phase, Engine.runs_of_idle h, (e.queued_iff c .long).mpr hq]

theorem Engine.phase_none_of_idle {e : Engine} {c : Fin 8} (h : e.running = none) (hq : ∀ x ∈ e.queue, x.channel ≠ c) :
    e.phase c = .none := by
  have hqueued (k : CalKind) : ¬e.queued c k = true := fun hk => hq _ ((e.queued_iff c k).mp hk) rfl
  simp [Engine.phase, Engine.runs_of_idle h, hqueued]

/-! ### The correlation test, the blend and the drift -/

theorem correlationPasses_iff (h : Histogram) (hits : Nat) :
    correlationPasses h hits = true ↔ ∀ k : Fin 256, h[k].toNat ≤ hits / 8 := by
  simp only [correlationPasses, Vector.all_toList, Vector.all_eq_true, decide_eq_true_eq, Fin.forall_iff, Fin.getElem_fin]

theorem correlationPasses_eq_false {h : Histogram} {hits : Nat} (hb : ∃ k : Fin 256, hits / 8 < h[k].toNat) :
    correlationPasses h hits = false := by
  obtain ⟨k, hk⟩ := hb
  exact Bool.eq_false_iff.mpr fun hp => Nat.not_le.mpr hk ((correlationPasses_iff h hits).mp hp k)

/-- Four 12-bit parts and the rounding term stay below 4·4096, so no bit of the blend is lost (R49). -/
theorem toNat_blendTable (old fresh : FineTable) (k : Fin 256) :
    (blendTable old fresh)[k].toNat = (3 * old[k].toNat + fresh[k].toNat + 2) / 4 := by
  have ho := old[k].isLt
  have hf := fresh[k].isLt
  simp only [blendTable, Fin.getElem_fin, Vector.getElem_ofFn, blendValue, BitVec.toNat_ofNat] at ho hf ⊢
  exact Nat.mod_eq_of_lt (by omega)

/-- The drift is reached at some code and at none exceeded (R44, R49). -/
theorem drift_isGreatest (old fresh : FineTable) :
    IsGreatest (Set.range fun k : Fin 256 => fineGap fresh[k] old[k]) (drift old fresh) := by
  have hne : (List.finRange 256).map (fun k => fineGap fresh[k] old[k]) ≠ [] :=
    List.ne_nil_of_mem (List.mem_map_of_mem (List.mem_finRange 0))
  obtain ⟨m, hm⟩ := Option.isSome_iff_exists.mp (List.isSome_max?_of_ne_nil hne)
  have hdrift : drift old fresh = m := by
    rw [drift, ← List.foldl_map (f := fun k : Fin 256 => fineGap fresh[k] old[k]) (g := max), List.foldl_max, hm]
    exact Nat.zero_max m
  obtain ⟨hmem, hle⟩ := List.max?_eq_some_iff.mp hm
  rw [hdrift]
  exact ⟨by simpa using hmem, by simpa [upperBounds] using hle⟩

/-- A drift is a difference of two 12-bit values, so the outcome record holds it whole. -/
theorem toNat_ofNat_drift (old fresh : FineTable) : (BitVec.ofNat 12 (drift old fresh)).toNat = drift old fresh := by
  obtain ⟨k, hk⟩ := (drift_isGreatest old fresh).1
  have ho := old[k].isLt
  have hf := fresh[k].isLt
  rw [BitVec.toNat_ofNat, ← hk]
  exact Nat.mod_eq_of_lt (by simp only [fineGap]; omega)

/-- The recorded drift as the statements spell it. -/
theorem recordedDrift_isGreatest (old fresh : FineTable) :
    (∀ k : Fin 256, fineGap fresh[k] old[k] ≤ (BitVec.ofNat 12 (drift old fresh)).toNat) ∧
      ∃ k : Fin 256, fineGap fresh[k] old[k] = (BitVec.ofNat 12 (drift old fresh)).toNat := by
  rw [toNat_ofNat_drift]
  obtain ⟨hmem, hub⟩ := drift_isGreatest old fresh
  exact ⟨fun k => hub ⟨k, rfl⟩, hmem⟩

/-! ### The judged end of a calibration -/

/-- The engine after the judged end of a calibration on a channel: where the correlation test passes, the table installed and DONE
recorded with the drift; otherwise CORRELATED alone (R44, R48, R49). -/
def Engine.finish (e : Engine) (c : Fin 8) (k : CalKind) (t : FineTable) (d : Nat) (passes : Bool) : Engine :=
  if passes then (e.install c t).setOutcome c k .done d else e.setOutcome c k .correlated 0

/-- The cause that the end of a calibration raises (R54). -/
def finishCause (passes : Bool) : Fin 4 := if passes then causeDone else causeFailed

section
variable (e : Engine) (c : Fin 8) (k : CalKind) (t : FineTable) (d : Nat) (passes : Bool)

@[simp] theorem Engine.finish_running : (e.finish c k t d passes).running = e.running := by cases passes <;> rfl
@[simp] theorem Engine.finish_queue : (e.finish c k t d passes).queue = e.queue := by cases passes <;> rfl
@[simp] theorem Engine.finish_driftLimit : (e.finish c k t d passes).driftLimit = e.driftLimit := by cases passes <;> rfl
@[simp] theorem Engine.finish_init : (e.finish c k t d passes).init = e.init := by cases passes <;> rfl

theorem Engine.finish_of_ne {c' : Fin 8} (h : c' ≠ c) :
    (e.finish c k t d passes).tables[c'] = e.tables[c'] ∧ (e.finish c k t d passes).generations[c'] = e.generations[c'] ∧
      (e.finish c k t d passes).outcomes[c'] = e.outcomes[c'] := by
  have h' : c.val ≠ c'.val := fun hv => h (Fin.ext hv.symm)
  cases passes <;> simp [Engine.finish, Engine.install, Engine.setOutcome, h']

theorem Engine.finish_passed :
    (e.finish c k t d true).tables[c] = t ∧ (e.finish c k t d true).generations[c] = e.generations[c] + 1 ∧
      (e.finish c k t d true).outcomes[c] = ⟨some k, .done, BitVec.ofNat 12 d⟩ := by
  simp [Engine.finish, Engine.install, Engine.setOutcome]

theorem Engine.finish_failed :
    (e.finish c k t d false).tables[c] = e.tables[c] ∧ (e.finish c k t d false).generations[c] = e.generations[c] ∧
      (e.finish c k t d false).outcomes[c] = ⟨some k, .correlated, 0⟩ := by
  simp [Engine.finish, Engine.setOutcome]

variable {e c} in
theorem Engine.phase_finish_none (he : e.running = none) (hq : ∀ x ∈ e.queue, x.channel ≠ c) :
    (e.finish c k t d passes).phase c = .none :=
  Engine.phase_none_of_idle ((e.finish_running ..).trans he) ((e.finish_queue c k t d passes).symm ▸ hq)

variable {e c} in
theorem Engine.phase_finish_longWait (he : e.running = none) (hq : ⟨c, .long⟩ ∈ e.queue) :
    (e.finish c k t d passes).phase c = .longWait :=
  Engine.phase_longWait_of_idle ((e.finish_running ..).trans he) ((e.finish_queue c k t d passes).symm ▸ hq)

end

end Sys2Proof.Machine
end

section
/-! The completion of a long and of a short calibration (spec/03_interpolator_calibration.md, sections 3.4 to 3.6): each is the judged
end of a calibration on an idle engine and the causes raised, and the obligations O28 and O29 follow. -/

namespace Sys2Proof.Machine

open Sys2Proof.Safety

/-! ### The long calibration -/

@[simp] theorem State.channel_emptyHistories_self (s : State) (c : Fin 8) :
    (s.emptyHistories c).channel c = { s.channel c with lastAccepted := none, lastStamped := none } :=
  s.channel_setChannel_self c _

@[simp] theorem State.channel_emptyHistories_of_ne (s : State) {c d : Fin 8} (h : d ≠ c) :
    (s.emptyHistories c).channel d = s.channel d :=
  s.channel_setChannel_of_ne h _

/-- The engine after the completion of a long calibration, by the outcome of its correlation test (R44, R57). -/
def Engine.longFinished (e : Engine) (r : Running) (passes : Bool) : Engine :=
  { e with running := none, init := e.init && decide (r.channel ≠ 7) }.finish r.channel .long (freshTable e.histogram 65536)
    (drift e.tables[r.channel] (freshTable e.histogram 65536)) passes

theorem Engine.longFinished_passed (e : Engine) (r : Running) :
    (e.longFinished r true).tables[r.channel] = freshTable e.histogram 65536 ∧
      (e.longFinished r true).generations[r.channel] = e.generations[r.channel] + 1 ∧
      (e.longFinished r true).outcomes[r.channel] =
        ⟨some .long, .done, BitVec.ofNat 12 (drift e.tables[r.channel] (freshTable e.histogram 65536))⟩ :=
  Engine.finish_passed ..

theorem Engine.longFinished_failed (e : Engine) (r : Running) :
    (e.longFinished r false).tables[r.channel] = e.tables[r.channel] ∧
      (e.longFinished r false).generations[r.channel] = e.generations[r.channel] ∧
      (e.longFinished r false).outcomes[r.channel] = ⟨some .long, .correlated, 0⟩ :=
  Engine.finish_failed ..

theorem State.longComplete_eq (s : State) (r : Running) :
    s.longComplete r =
      ((s.setEngine (s.engine.longFinished r (correlationPasses s.engine.histogram 65536))).emptyHistories r.channel).raise
        sourceCalibration (finishCause (correlationPasses s.engine.histogram 65536)) := by
  unfold State.longComplete Config.longHits
  cases correlationPasses s.engine.histogram 65536 <;> rfl

theorem exec_longCalibrationComplete {s : State} {r : Running} (hrun : s.engine.running = some r) (hk : r.kind = .long)
    (hh : r.hits = 65536) : exec .longCalibrationComplete s = .next (s.longComplete r) := by
  have hdue : r.kind = .long ∧ r.hits = Config.longHits := ⟨hk, hh⟩
  simp only [exec, execLongCalibrationComplete, hrun, if_pos hdue]

/-- Settles O28: the engine and the cause are those of the judged end, once for each outcome of the correlation test. -/
theorem longCalibrationCompletes : Obligations.LongCalibrationCompletes := by
  intro s r hrun hk hh
  refine ⟨_, BitVec.ofNat 12 (drift s.engine.tables[r.channel] (freshTable s.engine.histogram 65536)),
    (exec_longCalibrationComplete hrun hk hh).trans (congrArg _ (s.longComplete_eq r)), rfl, Engine.finish_running ..,
    Engine.finish_queue .., Engine.finish_driftLimit .., Engine.finish_init .., fun hq => Engine.phase_finish_none _ _ _ _ rfl hq,
    State.channel_emptyHistories_self .., fun c hc => State.channel_emptyHistories_of_ne _ hc,
    fun c hc => Engine.finish_of_ne _ _ _ _ _ _ hc, fun hgood => ?passes, fun hbad => ?fails⟩
  case passes =>
    rw [(correlationPasses_iff s.engine.histogram 65536).mpr hgood]
    obtain ⟨htable, hgeneration, houtcome⟩ := s.engine.longFinished_passed r
    refine ⟨htable, hgeneration, houtcome, State.raise_raised _ _ _, ?_⟩
    simp only [State.raise_engine, State.emptyHistories_engine, State.setEngine_engine, htable]
    exact recordedDrift_isGreatest _ _
  case fails =>
    rw [correlationPasses_eq_false hbad]
    obtain ⟨htable, hgeneration, houtcome⟩ := s.engine.longFinished_failed r
    exact ⟨htable, hgeneration, houtcome, State.raise_raised _ _ _⟩

/-! ### The short calibration -/

/-- The engine after the completion of a short calibration, by the outcome of its correlation test (R49). -/
def Engine.shortFinished (e : Engine) (r : Running) (passes : Bool) : Engine :=
  { e with running := none }.finish r.channel .short (blendTable e.tables[r.channel] (freshTable e.histogram 8192))
    (drift e.tables[r.channel] (freshTable e.histogram 8192)) passes

theorem Engine.shortFinished_passed (e : Engine) (r : Running) :
    (∀ k : Fin 256, (e.shortFinished r true).tables[r.channel][k].toNat =
        (3 * e.tables[r.channel][k].toNat + (freshTable e.histogram 8192)[k].toNat + 2) / 4) ∧
      (e.shortFinished r true).generations[r.channel] = e.generations[r.channel] + 1 ∧
      (e.shortFinished r true).outcomes[r.channel] =
        ⟨some .short, .done, BitVec.ofNat 12 (drift e.tables[r.channel] (freshTable e.histogram 8192))⟩ := by
  obtain ⟨htable, hgeneration, houtcome⟩ := Engine.finish_passed ..
  refine ⟨fun k => ?_, hgeneration, houtcome⟩
  rw [Engine.shortFinished, htable]
  exact toNat_blendTable _ _ k

theorem Engine.shortFinished_failed (e : Engine) (r : Running) :
    (e.shortFinished r false).tables[r.channel] = e.tables[r.channel] ∧
      (e.shortFinished r false).generations[r.channel] = e.generations[r.channel] ∧
      (e.shortFinished r false).outcomes[r.channel] = ⟨some .short, .correlated, 0⟩ :=
  Engine.finish_failed ..

/-- Replacing the engine raises nothing. -/
theorem raised_ofSetEngine {id : Fin 20} {a : BitVec 4} {s t : State} {e : Engine} (h : Raised id a (s.setEngine e) t) :
    Raised id a s t := h

/-- DRIFT raised where the drift of a passed calibration lies above the limit in force (R49). -/
def State.raiseDrift (s : State) (above : Bool) : State := if above then s.raise sourceCalibration causeDrift else s

@[simp] theorem State.raiseDrift_engine (s : State) (above : Bool) : (s.raiseDrift above).engine = s.engine := by
  cases above <;> rfl

/-- What differs from `s` in the engine and the attention controller alone still does. -/
theorem State.raiseDrift_frame {s t : State} (h : { t with engine := s.engine, attention := s.attention } = s) (above : Bool) :
    { t.raiseDrift above with engine := s.engine, attention := s.attention } = s := by
  cases above <;> exact h

theorem State.raiseDrift_raised (s : State) (above : Bool) :
    Raised sourceCalibration (if above then causeBit causeDrift else 0) s (s.raiseDrift above) := by
  cases above
  · exact raised_none _ _
  · exact State.raise_raised _ _ _

/-- Whether a short calibration raises DRIFT: its drift lies above the limit in force (R49). -/
def Engine.driftAbove (e : Engine) (r : Running) : Bool :=
  decide (e.driftLimit.toNat < drift e.tables[r.channel] (freshTable e.histogram 8192))

theorem State.shortComplete_eq (s : State) (r : Running) :
    s.shortComplete r =
      ((s.setEngine (s.engine.shortFinished r (correlationPasses s.engine.histogram 8192))).raise sourceCalibration
        (finishCause (correlationPasses s.engine.histogram 8192))).raiseDrift
          (correlationPasses s.engine.histogram 8192 && s.engine.driftAbove r) := by
  unfold State.shortComplete Config.shortHits State.raiseDrift Engine.driftAbove
  simp only [Bool.and_eq_true, decide_eq_true_eq]
  cases correlationPasses s.engine.histogram 8192
  · rfl
  · simp only [if_true, true_and]
    split
    · rfl
    · rfl

theorem exec_shortCalibrationComplete {s : State} {r : Running} (hrun : s.engine.running = some r) (hk : r.kind = .short)
    (hh : r.hits = 8192) : exec .shortCalibrationComplete s = .next (s.shortComplete r) := by
  have hdue : r.kind = .short ∧ r.hits = Config.shortHits := ⟨hk, hh⟩
  simp only [exec, execShortCalibrationComplete, hrun, if_pos hdue]

/-- DONE, and DRIFT beside it above the limit, as one set of causes (R49). -/
theorem shortCauses_eq (e : Engine) (r : Running) :
    (causeBit causeDone ||| if e.driftAbove r then causeBit causeDrift else 0) =
      if e.driftLimit < BitVec.ofNat 12 (drift e.tables[r.channel] (freshTable e.histogram 8192)) then 0b0101#4 else 0b0001#4 := by
  simp only [Engine.driftAbove, BitVec.lt_def, toNat_ofNat_drift, decide_eq_true_eq]
  split <;> rfl

/-- Settles O29: the engine and the causes are those of the judged end, once for each outcome of the correlation test. -/
theorem shortCalibrationCompletes : Obligations.ShortCalibrationCompletes := by
  intro s r hrun hk hh
  refine ⟨_, BitVec.ofNat 12 (drift s.engine.tables[r.channel] (freshTable s.engine.histogram 8192)),
    (exec_shortCalibrationComplete hrun hk hh).trans (congrArg _ (s.shortComplete_eq r)), State.raiseDrift_frame rfl _, ?_⟩
  rw [State.raiseDrift_engine]
  refine ⟨Engine.finish_running .., Engine.finish_queue .., Engine.finish_driftLimit .., Engine.finish_init ..,
    fun hq => Engine.phase_finish_longWait _ _ _ _ rfl hq, fun hq => Engine.phase_finish_none _ _ _ _ rfl hq,
    fun c hc => Engine.finish_of_ne _ _ _ _ _ _ hc, fun hgood => ?passes, fun hbad => ?fails⟩
  case passes =>
    rw [(correlationPasses_iff s.engine.histogram 8192).mpr hgood, Bool.true_and]
    obtain ⟨htable, hgeneration, houtcome⟩ := s.engine.shortFinished_passed r
    have hraised := raised_trans (State.raise_raised (s.setEngine (s.engine.shortFinished r true)) sourceCalibration causeDone)
      (State.raiseDrift_raised _ (s.engine.driftAbove r))
    rw [shortCauses_eq] at hraised
    exact ⟨htable, hgeneration, houtcome, raised_ofSetEngine hraised, recordedDrift_isGreatest _ _⟩
  case fails =>
    rw [correlationPasses_eq_false hbad, Bool.false_and]
    obtain ⟨htable, hgeneration, houtcome⟩ := s.engine.shortFinished_failed r
    exact ⟨htable, hgeneration, houtcome, State.raise_raised _ _ _⟩

end Sys2Proof.Machine
end

section
/-! CALIBRATE (spec/03_interpolator_calibration.md, section 3.3): the channels treated one at a time, the answer of each request line by
line, the result code, and the obligation O25 assembled from them. -/

namespace Sys2Proof.Machine

open Sys2Proof.Safety

/-! ### The masked channels one at a time -/

section
variable (s : State) (mask : Byte) (f : State → Fin 8 → State × ResultCode)

/-- What the treatment of one channel makes of the part and answers: the request's doing under the mask, nothing and OK elsewhere (R40). -/
def State.treat (c : Fin 8) : State × ResultCode := if mask.getLsbD c.val then f s c else (s, .ok)

/-- The part once the channels below `k` have been treated. -/
def State.treatedBelow (k : Fin 9) : State := Fin.induction s (fun c t => (t.treat mask f c).1) k

/-- The answer of a channel when its turn comes. -/
def State.answerOf (c : Fin 8) : ResultCode := ((s.treatedBelow mask f c.castSucc).treat mask f c).2

theorem State.treatedBelow_succ (c : Fin 8) :
    s.treatedBelow mask f c.succ = ((s.treatedBelow mask f c.castSucc).treat mask f c).1 :=
  Fin.induction_succ ..

/-- One turn: the channel treated and its answer put behind the earlier ones. -/
def treatNext (mask : Byte) (f : State → Fin 8 → State × ResultCode) (acc : State × List ResultCode) (c : Fin 8) :
    State × List ResultCode :=
  ((acc.1.treat mask f c).1, acc.2 ++ [(acc.1.treat mask f c).2])

theorem State.perChannel_eq_foldl : s.perChannel mask f = (List.finRange 8).foldl (treatNext mask f) (s, []) := by
  unfold State.perChannel treatNext State.treat
  congr
  funext acc c
  split <;> rfl

/-- After the first `k` channels the fold holds the part they leave and their answers. -/
theorem State.foldl_treat_take (k : Fin 9) :
    ((List.finRange 8).take k.val).foldl (treatNext mask f) (s, []) =
      (s.treatedBelow mask f k, (List.ofFn (s.answerOf mask f)).take k.val) := by
  induction k using Fin.induction with
  | zero => rfl
  | succ c ih =>
    have hrange : c.val < (List.finRange 8).length := by simp
    have hanswers : c.val < (List.ofFn (s.answerOf mask f)).length := by simp
    rw [Fin.val_castSucc] at ih
    rw [Fin.val_succ, List.take_succ_eq_append_getElem hrange, List.foldl_append, ih, List.take_succ_eq_append_getElem hanswers]
    simp only [List.foldl_cons, List.foldl_nil, treatNext, List.getElem_finRange, List.getElem_ofFn, Fin.cast_mk, Fin.eta,
      State.treatedBelow_succ, State.answerOf]

theorem State.perChannel_eq : s.perChannel mask f = (s.treatedBelow mask f 8, List.ofFn (s.answerOf mask f)) := by
  rw [State.perChannel_eq_foldl]
  have h := s.foldl_treat_take mask f 8
  rwa [List.take_of_length_le (by simp), List.take_of_length_le (by simp)] at h

end

/-- A request that answers each channel as a rule says is one that the rule describes channel by channel (R40, R51). -/
theorem State.perChannel_channelByChannel {answer : State → Fin 8 → ResultCode → State → Prop}
    {f : State → Fin 8 → State × ResultCode} (h : ∀ s c, answer s c (f s c).2 (f s c).1) (mask : Byte) (s : State) :
    ChannelByChannel answer mask s (s.perChannel mask f).2 (s.perChannel mask f).1 := by
  rw [State.perChannel_eq]
  refine ⟨s.treatedBelow mask f, s.answerOf mask f, rfl, rfl, rfl, fun c => ⟨fun hmask => ?_, fun hmask => ?_⟩⟩
  · rw [State.treatedBelow_succ, State.answerOf, State.treat, if_pos hmask]
    exact h _ c
  · rw [State.treatedBelow_succ, State.answerOf, State.treat, hmask]
    exact ⟨rfl, rfl⟩

/-! ### The requests, line by line -/

/-- With no LONG entry of the channel waiting, the entry of the channel is its SHORT entry. -/
theorem map_upgrade_eq {c : Fin 8} {q : List CalEntry} (h : ⟨c, .long⟩ ∉ q) :
    (q.map fun x => if x.channel = c then { x with kind := .long } else x) =
      q.map fun x => if x = ⟨c, .short⟩ then ⟨c, .long⟩ else x := by
  refine List.map_congr_left fun x hx => ?_
  obtain ⟨d, k⟩ := x
  cases k with
  | short => by_cases hd : d = c <;> simp [hd]
  | long =>
    have hd : d ≠ c := fun hd => h (hd ▸ hx)
    simp [hd]

/-- A LONG request follows R41. -/
theorem State.requestLong_longAnswer (s : State) (c : Fin 8) : LongAnswer s c (s.requestLong c).2 (s.requestLong c).1 := by
  unfold LongAnswer State.requestLong
  rw [← channelHeld_iff, ← s.engine.queued_iff]
  refine ⟨fun hheld => ?_, fun hheld hphase => ?_, fun hheld hwait hrun => ?_⟩
  · rw [if_pos hheld]
    exact ⟨rfl, rfl⟩
  · rw [if_neg hheld, if_pos hphase]
    exact ⟨rfl, rfl⟩
  · rw [if_neg hheld, if_neg (not_or.mpr ⟨hwait, hrun⟩), map_upgrade_eq (Engine.long_not_mem_queue hwait hrun)]
    cases s.engine.queued c .short <;> simp [State.setEngine]

/-- A SHORT request follows R42. -/
theorem State.requestShort_shortAnswer (s : State) (c : Fin 8) : ShortAnswer s c (s.requestShort c).2 (s.requestShort c).1 := by
  unfold ShortAnswer State.requestShort
  refine ⟨fun hoff => ?_, fun hon hphase => ?_, fun hon hphase => ?_⟩
  · rw [hoff]
    exact ⟨rfl, rfl⟩
  · rw [hon, if_neg (by decide), if_pos hphase]
    exact ⟨rfl, rfl⟩
  · rw [hon, if_neg (by decide), if_neg (not_not.mpr hphase)]
    exact ⟨rfl, rfl⟩

/-- The request of a kind (R40). -/
def State.request : CalKind → State → Fin 8 → State × ResultCode
  | .long => State.requestLong
  | .short => State.requestShort

/-! ### The result code -/

/-- The lowest refused channel's refusal is the code (R40). -/
theorem calibrateCode_of_refusal {before after : List ResultCode} {a : ResultCode} (hbefore : ∀ x ∈ before, x.isRefusal = false)
    (ha : a.isRefusal = true) : calibrateCode (before ++ a :: after) = a := by
  have hfind : (before ++ a :: after).find? ResultCode.isRefusal = some a :=
    List.find?_eq_some_iff_append.mpr ⟨ha, before, after, rfl, fun x hx => by rw [hbefore x hx]; rfl⟩
  rw [calibrateCode, hfind]

/-- With no channel refused the code tells whether one answered ALREADY (R40). -/
theorem calibrateCode_of_no_refusal {answers : List ResultCode} (h : ∀ x ∈ answers, x.isRefusal = false) :
    calibrateCode answers = if .already ∈ answers then .already else .ok := by
  have hfind : answers.find? ResultCode.isRefusal = none :=
    List.find?_eq_none.mpr fun x hx => by rw [h x hx]; decide
  simp only [calibrateCode, hfind, List.contains_iff_mem]

/-! ### The command -/

/-- SHORT and LONG are the only kinds a byte names (R177). -/
theorem calKindOf_of_le {b : Byte} (h : 2 ≤ b.toNat) : calKindOf b = none := by
  rw [calKindOf, if_neg (by bv_omega), if_neg (by bv_omega)]

section
variable {s : State} {mask kind : Byte}

theorem exec_calibrate_of_init (hs : InFrame s) (hinit : s.engine.init = true) :
    exec (.calibrate mask kind) s = .next (answered 2 s .notReady (eightAnswers .notReady) .none) := by
  simp only [exec, execCalibrate, State.runCommand_of_inFrame hs, if_pos hinit, Answer.taken]

theorem exec_calibrate_of_badField (hs : InFrame s) (hinit : s.engine.init = false) (hk : calKindOf kind = none) :
    exec (.calibrate mask kind) s = .next (answered 2 s .badField (eightAnswers .badField) .none) := by
  simp only [exec, execCalibrate, State.runCommand_of_inFrame hs, hinit, Bool.false_eq_true, if_false, hk, Answer.taken]

theorem exec_calibrate_taken {k : CalKind} (hs : InFrame s) (hinit : s.engine.init = false) (hk : calKindOf kind = some k) :
    exec (.calibrate mask kind) s =
      .next (answered 2 (s.perChannel mask (State.request k)).1 (calibrateCode (s.perChannel mask (State.request k)).2)
        ((s.perChannel mask (State.request k)).2.map ResultCode.code) .none) := by
  simp only [exec, execCalibrate, State.runCommand_of_inFrame hs, hinit, Bool.false_eq_true, if_false, hk, Answer.taken]
  cases k <;> rfl

/-- With a kind of the set the masked channels are treated under the rule of that kind (R40). -/
theorem exec_calibrate_of_lt (hs : InFrame s) (hinit : s.engine.init = false) (hkind : kind.toNat < 2) :
    ∃ (answers : List ResultCode) (t : State),
      exec (.calibrate mask kind) s = .next (answered 2 t (calibrateCode answers) (answers.map ResultCode.code) .none) ∧
        (kind = 1 → ChannelByChannel LongAnswer mask s answers t) ∧ (kind = 0 → ChannelByChannel ShortAnswer mask s answers t) := by
  obtain rfl | rfl : kind = 0 ∨ kind = 1 := by bv_omega
  · exact ⟨_, _, exec_calibrate_taken (k := .short) hs hinit rfl, fun h => absurd h (by decide),
      fun _ => State.perChannel_channelByChannel State.requestShort_shortAnswer mask s⟩
  · exact ⟨_, _, exec_calibrate_taken (k := .long) hs hinit rfl,
      fun _ => State.perChannel_channelByChannel State.requestLong_longAnswer mask s, fun h => absurd h (by decide)⟩

end

/-- Settles O25: INIT first, then the kind, then the request of that kind channel by channel and the code of its answers. -/
theorem calibrateJudgesEachChannel : Obligations.CalibrateJudgesEachChannel := by
  refine ⟨fun s mask kind hs hinit => exec_calibrate_of_init hs hinit, fun s mask kind hs hinit =>
    ⟨fun hbad => exec_calibrate_of_badField hs hinit (calKindOf_of_le hbad), fun hkind => ?_⟩⟩
  obtain ⟨answers, t, hexec, hlong, hshort⟩ := exec_calibrate_of_lt (mask := mask) hs hinit hkind
  refine ⟨calibrateCode answers, answers, t, hexec, hlong, hshort, fun before a after he hbefore ha => ?refused,
    fun hnone halready => ?already, fun hnone hno => ?ok⟩
  case refused => exact he ▸ calibrateCode_of_refusal hbefore ha
  case already => exact (calibrateCode_of_no_refusal hnone).trans (if_pos halready)
  case ok => exact (calibrateCode_of_no_refusal hnone).trans (if_neg hno)

end Sys2Proof.Machine
end

section
/-! What the operand bytes of the context commands name and what the clamping of R72 makes of their numeric fields
(spec/04_measurement_contexts.md, sections 4.1 and 4.3): DEFINE CONTEXT and MODIFY CONTEXT are settled from these facts. -/

namespace Sys2Proof.Machine

/-! ### The bytes of the enumerations and of the channel numbers -/

/-- The bytes below `n` are those that `read` takes, and `code` gives each of them back (R177). -/
structure ReadsBelow {α : Type} (n : Nat) (read : Byte → Option α) (code : α → Byte) : Prop where
  none_of_le : ∀ b, n ≤ b.toNat → read b = none
  some_of_lt : ∀ b, b.toNat < n → ∃ x, read b = some x ∧ code x = b

theorem readsBelow_indexOf : ReadsBelow 8 (indexOf 8) fun c => .ofNat 8 c.val where
  none_of_le _ h := indexOf_of_le h
  some_of_lt b h := ⟨⟨b.toNat, h⟩, by simp [indexOf, h], by simp⟩

theorem readsBelow_senseOf : ReadsBelow 3 senseOf senseCode where
  none_of_le b h := by rw [senseOf, if_neg (by bv_omega), if_neg (by bv_omega), if_neg (by bv_omega)]
  some_of_lt b h := by
    obtain rfl | rfl | rfl : b = 0 ∨ b = 1 ∨ b = 2 := by bv_omega
    exacts [⟨.rise, rfl, rfl⟩, ⟨.fall, rfl, rfl⟩, ⟨.any, rfl, rfl⟩]

theorem readsBelow_armModeOf : ReadsBelow 3 armModeOf armModeCode where
  none_of_le b h := by rw [armModeOf, if_neg (by bv_omega), if_neg (by bv_omega), if_neg (by bv_omega)]
  some_of_lt b h := by
    obtain rfl | rfl | rfl : b = 0 ∨ b = 1 ∨ b = 2 := by bv_omega
    exacts [⟨.immediate, rfl, rfl⟩, ⟨.atTime, rfl, rfl⟩, ⟨.onEdge, rfl, rfl⟩]

theorem readsBelow_gateModeOf : ReadsBelow 3 gateModeOf gateModeCode where
  none_of_le b h := by rw [gateModeOf, if_neg (by bv_omega), if_neg (by bv_omega), if_neg (by bv_omega)]
  some_of_lt b h := by
    obtain rfl | rfl | rfl : b = 0 ∨ b = 1 ∨ b = 2 := by bv_omega
    exacts [⟨.time, rfl, rfl⟩, ⟨.window, rfl, rfl⟩, ⟨.manual, rfl, rfl⟩]

theorem readsBelow_runModeOf : ReadsBelow 2 runModeOf runModeCode where
  none_of_le b h := by rw [runModeOf, if_neg (by bv_omega), if_neg (by bv_omega)]
  some_of_lt b h := by
    obtain rfl | rfl : b = 0 ∨ b = 1 := by bv_omega
    exacts [⟨.single, rfl, rfl⟩, ⟨.continuous, rfl, rfl⟩]

theorem readsBelow_totalModeOf : ReadsBelow 2 totalModeOf totalModeCode where
  none_of_le b h := by rw [totalModeOf, if_neg (by bv_omega), if_neg (by bv_omega)]
  some_of_lt b h := by
    obtain rfl | rfl : b = 0 ∨ b = 1 := by bv_omega
    exacts [⟨.saturate, rfl, rfl⟩, ⟨.wrap, rfl, rfl⟩]

theorem readsBelow_onOffOf : ReadsBelow 2 onOffOf onOffCode where
  none_of_le _ h := onOffOf_of_le h
  some_of_lt b h := by
    obtain rfl | rfl : b = 0 ∨ b = 1 := by bv_omega
    exacts [⟨false, rfl, rfl⟩, ⟨true, rfl, rfl⟩]

section
variable {α : Type} {n : Nat} {read : Byte → Option α} {code : α → Byte}

/-- A held field whose byte lies outside the set reads as nothing (R70, R73). -/
theorem ReadsBelow.held_eq_none (r : ReadsBelow n read code) {held : Bool} {b : Byte} {d : α} (hheld : held = true)
    (h : n ≤ b.toNat) : (if held then read b else some d) = none := by
  rw [if_pos hheld, r.none_of_le b h]

/-- A field that is not held takes its value `d` whatever its byte (R60). -/
theorem ReadsBelow.exists_held (r : ReadsBelow n read code) {held : Bool} {b : Byte} (d : α) (h : held = true → b.toNat < n) :
    ∃ x, (if held then read b else some d) = some x ∧ code x = if held then b else code d := by
  cases held
  · exact ⟨d, rfl, rfl⟩
  · exact r.some_of_lt b (h rfl)

end

/-- FREQUENCY, INTERVAL and TOTALIZE are the only kinds a byte names for DEFINE CONTEXT (R70 check 3). -/
theorem kindOf_of_not_between {b : Byte} (h : ¬(1 ≤ b.toNat ∧ b.toNat ≤ 3)) : kindOf b = none := by
  rw [kindOf, if_neg (by bv_omega), if_neg (by bv_omega), if_neg (by bv_omega)]

theorem exists_kindOf_of_between {b : Byte} (h : 1 ≤ b.toNat ∧ b.toNat ≤ 3) : ∃ k, kindOf b = some k ∧ kindCode k = b := by
  obtain rfl | rfl | rfl : b = 1 ∨ b = 2 ∨ b = 3 := by bv_omega
  exacts [⟨.frequency, rfl, rfl⟩, ⟨.interval, rfl, rfl⟩, ⟨.totalize, rfl, rfl⟩]

/-! ### Which fields are held, told from the codes (R59) -/

theorem holdsTotal_eq_code (k : Kind) : holdsTotal k = decide (kindCode k = 3) := by cases k <;> rfl

theorem holdsInterval_eq_code (k : Kind) : holdsInterval k = decide (kindCode k = 2) := by cases k <;> rfl

theorem holdsChannelB_eq_code (k : Kind) (g : GateMode) :
    holdsChannelB k g = (decide (kindCode k = 2) || (decide (kindCode k = 3) && decide (gateModeCode g = 1))) := by
  cases k <;> cases g <;> rfl

theorem holdsGateTime_eq_code (k : Kind) (g : GateMode) :
    holdsGateTime k g = (decide (kindCode k = 1) || (decide (kindCode k = 3) && decide (gateModeCode g = 0))) := by
  cases k <;> cases g <;> rfl

theorem armMode_onEdge_iff_code (a : ArmMode) : a = .onEdge ↔ armModeCode a = 2 := by cases a <;> decide

theorem onOffCode_eq_one_iff (x : Bool) : onOffCode x = 1 ↔ x = true := by cases x <;> decide

/-- An arm mode outside its set is not ON_EDGE, so the byte alone tells whether the arm channel is held. -/
theorem blockHoldsArm_eq (b : ConfigBlock) : blockHoldsArm b = decide (b.armMode = 2) := by
  rw [blockHoldsArm, decide_eq_decide]
  constructor
  · intro h
    by_contra hne
    simp only [armModeOf, if_neg hne] at h
    split_ifs at h <;> cases h
  · intro h
    rw [h]
    rfl

/-! ### The clamping of R72 -/

theorem clampGateTime_eq (g : BitVec 40) : clampGateTime g = .ofNat 40 (max 1 (min 100000000000 g.toNat)) := by
  unfold clampGateTime Config.gateTimeMax
  split_ifs <;> bv_omega

theorem clampGateTime_ne_iff (g : BitVec 40) : clampGateTime g ≠ g ↔ g = 0 ∨ 100000000000 < g.toNat := by
  unfold clampGateTime Config.gateTimeMax
  split_ifs <;> bv_omega

theorem clampWatch_eq (w : BitVec 32) :
    clampWatch w = if w = 0 then 100000000 else .ofNat 32 (min 100000000 w.toNat) := by
  unfold clampWatch Config.watchMax
  split_ifs <;> bv_omega

theorem watchClamped_iff (w : BitVec 32) : watchClamped w = true ↔ 100000000 < w.toNat := decide_eq_true_iff

theorem clampAveraging_eq (m : BitVec 16) : clampAveraging m = .ofNat 16 (max 1 m.toNat) := by
  unfold clampAveraging
  split_ifs <;> bv_omega

theorem clampAveraging_ne_iff (m : BitVec 16) : clampAveraging m ≠ m ↔ m = 0 := by
  unfold clampAveraging
  split_ifs <;> bv_omega

theorem clampStopDelay_eq (d : BitVec 32) : clampStopDelay d = .ofNat 32 (min 16777215 d.toNat) := by
  unfold clampStopDelay Config.stopDelayMax
  split_ifs <;> bv_omega

theorem clampStopDelay_ne_iff (d : BitVec 32) : clampStopDelay d ≠ d ↔ 16777215 < d.toNat := by
  unfold clampStopDelay Config.stopDelayMax
  split_ifs <;> bv_omega

theorem clampSkip_eq (sk : Byte) : clampSkip sk = .ofNat 8 (min 15 sk.toNat) := by
  unfold clampSkip
  split_ifs <;> bv_omega

theorem clampSkip_ne_iff (sk : Byte) : clampSkip sk ≠ sk ↔ 15 < sk.toNat := by
  unfold clampSkip
  split_ifs <;> bv_omega

/-- Bringing a skip count to 15 leaves it 0 exactly where it was 0. -/
theorem clampSkip_eq_zero_iff (sk : Byte) : clampSkip sk = 0 ↔ sk = 0 := by
  unfold clampSkip
  split_ifs <;> bv_omega

theorem clampPass_eq (p sk : Byte) : clampPass p sk = if p = 0 ∧ sk ≠ 0 then 1 else .ofNat 8 (min 15 p.toNat) := by
  simp only [clampPass, ne_eq, clampSkip_eq_zero_iff]
  split_ifs <;> bv_omega

theorem clampPass_ne_iff (p sk : Byte) : clampPass p sk ≠ p ↔ 15 < p.toNat ∨ (p = 0 ∧ sk ≠ 0) := by
  rw [clampPass_eq]
  split_ifs <;> bv_omega

end Sys2Proof.Machine
end

section
/-! DEFINE CONTEXT (spec/04_measurement_contexts.md, sections 4.2 and 4.3): the checks of R70 on the block as sent, the configuration it
leaves, what a taken command makes of the context and of the listener lists, and the obligation O32 assembled from them. -/

namespace Sys2Proof.Machine

open Sys2Proof.Safety

/-! ### The block as sent -/

section
variable (b : ConfigBlock)

/-- A TOTALIZE block, by its kind byte (R177). -/
def blockTotal : Bool := decide (b.kind = 3)

/-- An INTERVAL block, by its kind byte (R177). -/
def blockInterval : Bool := decide (b.kind = 2)

/-- The block holds channel B and sense B (R59); tied to the model's test by `BlockNames.holdsChannelB_eq`. -/
def blockHoldsB : Bool := blockInterval b || (blockTotal b && decide (b.gateMode = 1))

/-- The block holds the gate time (R59); tied to the model's test by `BlockNames.holdsGateTime_eq`. -/
def blockHoldsG : Bool := decide (b.kind = 1) || (blockTotal b && decide (b.gateMode = 0))

/-- Checks 3 and 4 of R70: the kind, and a TOTALIZE block's gate mode. -/
def KindChecked : Prop := (1 ≤ b.kind.toNat ∧ b.kind.toNat ≤ 3) ∧ (blockTotal b = true → b.gateMode.toNat < 3)

/-- Check 5 of R70: the channels held. -/
def ChannelsChecked : Prop :=
  b.channelA.toNat < 8 ∧ (blockHoldsB b = true → b.channelB.toNat < 8) ∧
    (decide (b.armMode = 2) = true → b.armChannel.toNat < 8)

/-- Check 6 of R70: the other enumerations held. -/
def EnumsChecked : Prop :=
  b.senseA.toNat < 3 ∧ (blockHoldsB b = true → b.senseB.toNat < 3) ∧ (decide (b.armMode = 2) = true → b.armSense.toNat < 3) ∧
    b.armMode.toNat < 3 ∧ b.runMode.toNat < 2 ∧ b.limitEnable.toNat < 2 ∧ (blockTotal b = true → b.totalMode.toNat < 2)

/-- Check 7 of R70: limits in order where they are enabled. -/
def LimitsChecked : Prop := b.limitEnable = 1 → b.lowLimit ≤ b.highLimit

/-- The block that READ CONTEXT gives back after the definition: 0 where a field is not held (R60), clamped as R72 gives. -/
def storedBlock : ConfigBlock :=
  { b with
    channelB := if blockHoldsB b then b.channelB else 0
    senseB := if blockHoldsB b then b.senseB else 0
    armChannel := if decide (b.armMode = 2) then b.armChannel else 0
    armSense := if decide (b.armMode = 2) then b.armSense else 0
    gateMode := if blockTotal b then b.gateMode else 0
    totalMode := if blockTotal b then b.totalMode else 0
    passCount := if b.passCount = 0 ∧ b.skipCount ≠ 0 then 1 else .ofNat 8 (min 15 b.passCount.toNat)
    skipCount := .ofNat 8 (min 15 b.skipCount.toNat)
    gateTime := if blockHoldsG b then .ofNat 40 (max 1 (min 100000000000 b.gateTime.toNat)) else 0
    averaging := if blockInterval b then .ofNat 16 (max 1 b.averaging.toNat) else 0
    stopDelay := if blockInterval b then .ofNat 32 (min 16777215 b.stopDelay.toNat) else 0
    watch := if b.watch = 0 then 100000000 else .ofNat 32 (min 100000000 b.watch.toNat) }

/-- A numeric field that the block holds lies out of its range (R72). -/
def BlockOutOfRange : Prop :=
  (blockHoldsG b = true ∧ (b.gateTime = 0 ∨ 100000000000 < b.gateTime.toNat)) ∨
  (blockInterval b = true ∧ (b.averaging = 0 ∨ 16777215 < b.stopDelay.toNat)) ∨ 100000000 < b.watch.toNat ∨
  15 < b.passCount.toNat ∨ 15 < b.skipCount.toNat ∨ (b.passCount = 0 ∧ b.skipCount ≠ 0)

/-- The kind and the gate mode that the block names; a kind without a gate mode counts as TIME (R60). -/
structure BlockNames (kind : Kind) (gate : GateMode) : Prop where
  kind_eq : kindOf b.kind = some kind
  gate_eq : (if blockTotal b then gateModeOf b.gateMode else some .time) = some gate
  kindCode_eq : kindCode kind = b.kind
  gateCode_eq : gateModeCode gate = if blockTotal b then b.gateMode else 0

/-- The channels that the block names, 0 where not held (R60). -/
structure BlockChannels (chA chB chArm : Fin 8) : Prop where
  a_eq : indexOf 8 b.channelA = some chA
  b_eq : heldChannel (blockHoldsB b) b.channelB = some chB
  arm_eq : heldChannel (decide (b.armMode = 2)) b.armChannel = some chArm
  aCode_eq : .ofNat 8 chA.val = b.channelA
  bCode_eq : .ofNat 8 chB.val = if blockHoldsB b then b.channelB else 0
  armCode_eq : .ofNat 8 chArm.val = if decide (b.armMode = 2) then b.armChannel else 0

/-- The senses that the block names, RISE where not held (R60). -/
structure BlockSenses (sA sB sArm : Sense) : Prop where
  a_eq : senseOf b.senseA = some sA
  b_eq : heldSense (blockHoldsB b) b.senseB = some sB
  arm_eq : heldSense (decide (b.armMode = 2)) b.armSense = some sArm
  aCode_eq : senseCode sA = b.senseA
  bCode_eq : senseCode sB = if blockHoldsB b then b.senseB else 0
  armCode_eq : senseCode sArm = if decide (b.armMode = 2) then b.armSense else 0

/-- The modes that the block names; a kind without a total mode counts as SATURATE (R60). -/
structure BlockModes (am : ArmMode) (rm : RunMode) (lim : Bool) (tm : TotalMode) : Prop where
  arm_eq : armModeOf b.armMode = some am
  run_eq : runModeOf b.runMode = some rm
  limit_eq : onOffOf b.limitEnable = some lim
  total_eq : (if blockTotal b then totalModeOf b.totalMode else some .saturate) = some tm
  armCode_eq : armModeCode am = b.armMode
  runCode_eq : runModeCode rm = b.runMode
  limitCode_eq : onOffCode lim = b.limitEnable
  totalCode_eq : totalModeCode tm = if blockTotal b then b.totalMode else 0

end

section
variable {b : ConfigBlock} {kind : Kind} {gate : GateMode}

theorem holdsTotal_eq_blockTotal (h : kindCode kind = b.kind) : holdsTotal kind = blockTotal b := by
  rw [holdsTotal_eq_code, h, blockTotal]

theorem KindChecked.exists_names (h : KindChecked b) : ∃ kind gate, BlockNames b kind gate := by
  obtain ⟨hkind, hgate⟩ := h
  obtain ⟨kind, hk, hkc⟩ := exists_kindOf_of_between hkind
  obtain ⟨gate, hg, hgc⟩ := readsBelow_gateModeOf.exists_held .time hgate
  exact ⟨kind, gate, hk, hg, hkc, hgc⟩

theorem ChannelsChecked.exists_channels (h : ChannelsChecked b) : ∃ chA chB chArm, BlockChannels b chA chB chArm := by
  obtain ⟨hA, hB, hArm⟩ := h
  obtain ⟨chA, hA, hAc⟩ := readsBelow_indexOf.some_of_lt _ hA
  obtain ⟨chB, hB, hBc⟩ := readsBelow_indexOf.exists_held 0 hB
  obtain ⟨chArm, hArm, hArmc⟩ := readsBelow_indexOf.exists_held 0 hArm
  exact ⟨chA, chB, chArm, hA, hB, hArm, hAc, hBc, hArmc⟩

theorem EnumsChecked.exists_senses (h : EnumsChecked b) : ∃ sA sB sArm, BlockSenses b sA sB sArm := by
  obtain ⟨hA, hB, hArm, -⟩ := h
  obtain ⟨sA, hA, hAc⟩ := readsBelow_senseOf.some_of_lt _ hA
  obtain ⟨sB, hB, hBc⟩ := readsBelow_senseOf.exists_held .rise hB
  obtain ⟨sArm, hArm, hArmc⟩ := readsBelow_senseOf.exists_held .rise hArm
  exact ⟨sA, sB, sArm, hA, hB, hArm, hAc, hBc, hArmc⟩

theorem EnumsChecked.exists_modes (h : EnumsChecked b) : ∃ am rm lim tm, BlockModes b am rm lim tm := by
  obtain ⟨-, -, -, ham, hrm, hlim, htm⟩ := h
  obtain ⟨am, ham, hamc⟩ := readsBelow_armModeOf.some_of_lt _ ham
  obtain ⟨rm, hrm, hrmc⟩ := readsBelow_runModeOf.some_of_lt _ hrm
  obtain ⟨lim, hlim, hlimc⟩ := readsBelow_onOffOf.some_of_lt _ hlim
  obtain ⟨tm, htm, htmc⟩ := readsBelow_totalModeOf.exists_held .saturate htm
  exact ⟨am, rm, lim, tm, ham, hrm, hlim, htm, hamc, hrmc, hlimc, htmc⟩

/-- A kind and a gate mode that bear the codes of the block hold channel B as the block does (R59). -/
theorem holdsChannelB_of_codes (hk : kindCode kind = b.kind) (hg : gateModeCode gate = if blockTotal b then b.gateMode else 0) :
    holdsChannelB kind gate = blockHoldsB b := by
  rw [holdsChannelB_eq_code, hk, hg]
  change (blockInterval b || (blockTotal b && decide ((if blockTotal b then b.gateMode else 0) = 1))) = blockHoldsB b
  rw [blockHoldsB]
  cases blockTotal b <;> rfl

namespace BlockNames

theorem holdsTotal_eq (h : BlockNames b kind gate) : holdsTotal kind = blockTotal b := holdsTotal_eq_blockTotal h.kindCode_eq

theorem holdsInterval_eq (h : BlockNames b kind gate) : holdsInterval kind = blockInterval b := by
  rw [holdsInterval_eq_code, h.kindCode_eq, blockInterval]

theorem holdsChannelB_eq (h : BlockNames b kind gate) : holdsChannelB kind gate = blockHoldsB b :=
  holdsChannelB_of_codes h.kindCode_eq h.gateCode_eq

theorem holdsGateTime_eq (h : BlockNames b kind gate) : holdsGateTime kind gate = blockHoldsG b := by
  rw [holdsGateTime_eq_code, h.kindCode_eq, h.gateCode_eq]
  change (decide (b.kind = 1) || (blockTotal b && decide ((if blockTotal b then b.gateMode else 0) = 0))) = blockHoldsG b
  rw [blockHoldsG]
  cases blockTotal b <;> rfl

end BlockNames

/-! ### The verdict, check by check -/

theorem judgeBlock_of_not_kind (h : ¬KindChecked b) : judgeBlock b = .refuse .badField := by
  by_cases hkind : 1 ≤ b.kind.toNat ∧ b.kind.toNat ≤ 3
  · obtain ⟨kind, hk, hkc⟩ := exists_kindOf_of_between hkind
    have hgate : blockTotal b = true ∧ 3 ≤ b.gateMode.toNat := by simpa [KindChecked, hkind] using h
    obtain ⟨ht, hgate⟩ := hgate
    have hg := readsBelow_gateModeOf.held_eq_none (d := .time) ((holdsTotal_eq_blockTotal hkc).trans ht) hgate
    simp only [judgeBlock, hk, hg]
  · simp only [judgeBlock, kindOf_of_not_between hkind]

theorem judgeBlock_of_not_channels (hk : KindChecked b) (hc : ¬ChannelsChecked b) : judgeBlock b = .refuse .range := by
  obtain ⟨kind, gate, h⟩ := hk.exists_names
  have hnone : indexOf 8 b.channelA = none ∨ heldChannel (holdsChannelB kind gate) b.channelB = none ∨
      heldChannel (blockHoldsArm b) b.armChannel = none := by
    rw [h.holdsChannelB_eq, blockHoldsArm_eq]
    simp only [ChannelsChecked, not_and_or, Classical.not_imp, Nat.not_lt] at hc
    rcases hc with hA | ⟨hheld, hB⟩ | ⟨hheld, hArm⟩
    · exact .inl (readsBelow_indexOf.none_of_le _ hA)
    · exact .inr (.inl (readsBelow_indexOf.held_eq_none hheld hB))
    · exact .inr (.inr (readsBelow_indexOf.held_eq_none hheld hArm))
  simp only [judgeBlock, h.kind_eq, h.holdsTotal_eq, h.gate_eq]
  split
  · next hA hB hArm => simp only [hA, hB, hArm, reduceCtorEq, or_self] at hnone
  · rfl

/-- Check 6 fails in a sense or in one of the modes (R70). -/
theorem eq_none_of_not_enumsChecked (h : ¬EnumsChecked b) :
    (senseOf b.senseA = none ∨ heldSense (blockHoldsB b) b.senseB = none ∨ heldSense (decide (b.armMode = 2)) b.armSense = none) ∨
      armModeOf b.armMode = none ∨ runModeOf b.runMode = none ∨ onOffOf b.limitEnable = none ∨
        (if blockTotal b then totalModeOf b.totalMode else some .saturate) = none := by
  simp only [EnumsChecked, not_and_or, Classical.not_imp, Nat.not_lt] at h
  rcases h with hA | ⟨hheld, hB⟩ | ⟨hheld, hArm⟩ | ham | hrm | hlim | ⟨hheld, htm⟩
  · exact .inl (.inl (readsBelow_senseOf.none_of_le _ hA))
  · exact .inl (.inr (.inl (readsBelow_senseOf.held_eq_none hheld hB)))
  · exact .inl (.inr (.inr (readsBelow_senseOf.held_eq_none hheld hArm)))
  · exact .inr (.inl (readsBelow_armModeOf.none_of_le _ ham))
  · exact .inr (.inr (.inl (readsBelow_runModeOf.none_of_le _ hrm)))
  · exact .inr (.inr (.inr (.inl (readsBelow_onOffOf.none_of_le _ hlim))))
  · exact .inr (.inr (.inr (.inr (readsBelow_totalModeOf.held_eq_none hheld htm))))

theorem judgeBlock_of_not_enums (hk : KindChecked b) (hc : ChannelsChecked b) (he : ¬EnumsChecked b) :
    judgeBlock b = .refuse .badField := by
  obtain ⟨kind, gate, h⟩ := hk.exists_names
  obtain ⟨chA, chB, chArm, hc⟩ := hc.exists_channels
  have hnone := eq_none_of_not_enumsChecked he
  simp only [judgeBlock, h.kind_eq, h.holdsTotal_eq, h.gate_eq, h.holdsChannelB_eq, blockHoldsArm_eq, hc.a_eq, hc.b_eq, hc.arm_eq]
  split
  · next hA hB hArm =>
    split
    · next ham hrm hlim htm => simp only [hA, hB, hArm, ham, hrm, hlim, htm, reduceCtorEq, or_self] at hnone
    · rfl
  · rfl

/-- Where checks 3 to 6 pass, the limits alone decide (R70 check 7). -/
theorem judgeBlock_of_read {chA chB chArm : Fin 8} {sA sB sArm : Sense} {am : ArmMode} {rm : RunMode} {lim : Bool} {tm : TotalMode}
    (h : BlockNames b kind gate) (hc : BlockChannels b chA chB chArm) (hs : BlockSenses b sA sB sArm)
    (hm : BlockModes b am rm lim tm) :
    judgeBlock b =
      if lim ∧ b.highLimit < b.lowLimit then .refuse .badField
      else .take (storedConfig b kind gate chA chB chArm sA sB sArm am rm lim tm) (blockClamped b kind gate) := by
  simp only [judgeBlock, h.kind_eq, h.holdsTotal_eq, h.gate_eq, h.holdsChannelB_eq, blockHoldsArm_eq, hc.a_eq, hc.b_eq, hc.arm_eq,
    hs.a_eq, hs.b_eq, hs.arm_eq, hm.arm_eq, hm.run_eq, hm.limit_eq, hm.total_eq]

/-! ### The configuration stored -/

theorem storedConfig_toBlock {chA chB chArm : Fin 8} {sA sB sArm : Sense} {am : ArmMode} {rm : RunMode} {lim : Bool} {tm : TotalMode}
    (h : BlockNames b kind gate) (hc : BlockChannels b chA chB chArm) (hs : BlockSenses b sA sB sArm)
    (hm : BlockModes b am rm lim tm) :
    (storedConfig b kind gate chA chB chArm sA sB sArm am rm lim tm).toBlock = storedBlock b := by
  simp only [CtxConfig.toBlock, storedConfig, storedBlock, h.kindCode_eq, h.gateCode_eq, h.holdsGateTime_eq, h.holdsInterval_eq,
    hc.aCode_eq, hc.bCode_eq, hc.armCode_eq, hs.aCode_eq, hs.bCode_eq, hs.armCode_eq, hm.armCode_eq, hm.runCode_eq, hm.limitCode_eq,
    hm.totalCode_eq, clampGateTime_eq, clampWatch_eq, clampAveraging_eq, clampStopDelay_eq, clampSkip_eq, clampPass_eq]

theorem blockClamped_iff (h : BlockNames b kind gate) : blockClamped b kind gate = true ↔ BlockOutOfRange b := by
  simp only [blockClamped, BlockOutOfRange, h.holdsGateTime_eq, h.holdsInterval_eq, Bool.or_eq_true, Bool.and_eq_true,
    decide_eq_true_eq, clampGateTime_ne_iff, clampAveraging_ne_iff, clampStopDelay_ne_iff, clampPass_ne_iff, clampSkip_ne_iff,
    watchClamped_iff]
  tauto

theorem judgeBlock_of_not_limits (hk : KindChecked b) (hc : ChannelsChecked b) (he : EnumsChecked b) (hl : ¬LimitsChecked b) :
    judgeBlock b = .refuse .badField := by
  obtain ⟨kind, gate, hk⟩ := hk.exists_names
  obtain ⟨chA, chB, chArm, hc⟩ := hc.exists_channels
  obtain ⟨sA, sB, sArm, hs⟩ := he.exists_senses
  obtain ⟨am, rm, lim, tm, hm⟩ := he.exists_modes
  rw [judgeBlock_of_read hk hc hs hm, if_pos]
  rwa [← onOffCode_eq_one_iff, hm.limitCode_eq, ← BitVec.not_le, ← Classical.not_imp]

/-- A block that passes every check of R70 is stored as R60, R71 and R72 give. -/
theorem judgeBlock_of_checked (hk : KindChecked b) (hc : ChannelsChecked b) (he : EnumsChecked b) (hl : LimitsChecked b) :
    ∃ cfg clamped, judgeBlock b = .take cfg clamped ∧ cfg.armTime = 0 ∧ cfg.toBlock = storedBlock b ∧
      (clamped = true ↔ BlockOutOfRange b) := by
  obtain ⟨kind, gate, hk⟩ := hk.exists_names
  obtain ⟨chA, chB, chArm, hc⟩ := hc.exists_channels
  obtain ⟨sA, sB, sArm, hs⟩ := he.exists_senses
  obtain ⟨am, rm, lim, tm, hm⟩ := he.exists_modes
  refine ⟨_, _, (judgeBlock_of_read hk hc hs hm).trans (if_neg ?_), rfl, storedConfig_toBlock hk hc hs hm, blockClamped_iff hk⟩
  rwa [← onOffCode_eq_one_iff, hm.limitCode_eq, ← BitVec.not_le, ← Classical.not_imp, not_not]

end

/-! ### The listener lists -/

/-- The other contexts' entries keep their places (R69). -/
theorem filter_ne_insertEntries {n : Fin 16} {new : List (Fin 16 × Role)} (hnew : ∀ e ∈ new, e.1 = n) (l : List (Fin 16 × Role)) :
    (insertEntries n new (removeEntries n l)).filter (fun e => decide (e.1 ≠ n)) = removeEntries n l := by
  have hnone : new.filter (fun e => decide (e.1 ≠ n)) = [] := by simpa using hnew
  rw [insertEntries, List.filter_append, List.filter_append, hnone, List.append_nil, ← List.filter_append,
    List.takeWhile_append_dropWhile, removeEntries, List.filter_filter]
  simp only [Bool.and_self]

/-- The context's own entries are the new ones alone (R69). -/
theorem filter_eq_insertEntries {n : Fin 16} {new : List (Fin 16 × Role)} (hnew : ∀ e ∈ new, e.1 = n) (l : List (Fin 16 × Role)) :
    (insertEntries n new (removeEntries n l)).filter (fun e => decide (e.1 = n)) = new := by
  have hother : ∀ l' : List (Fin 16 × Role), l'.Sublist (removeEntries n l) → l'.filter (fun e => decide (e.1 = n)) = [] := by
    intro l' hl
    refine List.filter_eq_nil_iff.mpr fun e he => ?_
    obtain ⟨-, hne⟩ := List.mem_filter.mp (hl.subset he)
    simpa using hne
  rw [insertEntries, List.filter_append, List.filter_append, hother _ (List.takeWhile_sublist _), hother _ (List.dropWhile_sublist _),
    List.nil_append, List.append_nil, List.filter_eq_self.mpr (by simpa using hnew)]

theorem fst_of_mem_entriesOn {cfg : CtxConfig} {n : Fin 16} {c : Fin 8} : ∀ e ∈ entriesOn cfg n c, e.1 = n := by
  intro e he
  obtain ⟨r, -, rfl⟩ := List.mem_map.mp he
  rfl

/-- Every entry of a context bears its number, so the roles tell the entries. -/
theorem entriesOn_eq_map (cfg : CtxConfig) (n : Fin 16) (c : Fin 8) :
    entriesOn cfg n c = ((entriesOn cfg n c).map fun e => e.2).map fun r => (n, r) := by
  simp [entriesOn, Function.comp_def]

@[simp] theorem State.relist_listenersOf (s : State) (n : Fin 16) (cfg : CtxConfig) (c : Fin 8) :
    (s.relist n cfg).listenersOf c = insertEntries n (entriesOn cfg n c) (removeEntries n (s.listenersOf c)) := by
  simp [State.listenersOf, State.relist]

/-- The entries of a configuration stored for a block, told from the block's bytes (R68). -/
theorem entriesOn_of_toBlock {cfg : CtxConfig} {b : ConfigBlock} (hk : KindChecked b) (h : cfg.toBlock = storedBlock b) (n : Fin 16)
    (c : Fin 8) :
    entriesOn cfg n c =
      (if cfg.channelA = c then [(n, .a)] else []) ++ (if blockHoldsB b = true ∧ cfg.channelB = c then [(n, .b)] else []) ++
        (if decide (b.armMode = 2) = true ∧ cfg.armChannel = c then [(n, .arm)] else []) := by
  have hkind : kindCode cfg.kind = b.kind := congrArg ConfigBlock.kind h
  have hgate : gateModeCode cfg.gateMode = if blockTotal b then b.gateMode else 0 := congrArg ConfigBlock.gateMode h
  have harm : cfg.armMode = .onEdge ↔ decide (b.armMode = 2) = true := by
    rw [armMode_onEdge_iff_code, decide_eq_true_eq, show armModeCode cfg.armMode = b.armMode from congrArg ConfigBlock.armMode h]
  have hB : holdsChannelB cfg.kind cfg.gateMode = blockHoldsB b := holdsChannelB_of_codes hkind hgate
  have hnone : cfg.kind ≠ .none := by
    intro hnone
    obtain ⟨⟨hpos, -⟩, -⟩ := hk
    rw [← hkind, hnone] at hpos
    exact absurd hpos (by decide)
  rw [entriesOn_eq_map, map_entriesOn, if_neg hnone]
  simp only [hB, harm, List.map_append, apply_ite (List.map _), List.map_cons, List.map_nil]

/-! ### A taken command -/

section
variable (s : State) (n : Fin 16) (cfg : CtxConfig)

/-- Only the contexts, the attention sources and the listener lists are touched (R71). -/
theorem State.define_frame :
    { s.define n cfg with contexts := s.contexts, attention := s.attention, listeners := s.listeners } = s := rfl

@[simp] theorem State.ctx_define_self :
    (s.define n cfg).ctx n = { Context.free with config := cfg, state := .idle, slot := (s.ctx n).slot } := by
  simp [State.define]

@[simp] theorem State.ctx_define_of_ne {m : Fin 16} (h : m ≠ n) : (s.define n cfg).ctx m = s.ctx m := by
  simp [State.define, h]

@[simp] theorem State.source_define_self :
    (s.define n cfg).source (contextSource n) = { s.source (contextSource n) with events := 0 } := by
  simp [State.define, State.clearEvents]

@[simp] theorem State.source_define_of_ne {id : Fin 20} (h : id ≠ contextSource n) : (s.define n cfg).source id = s.source id := by
  simp [State.define, State.clearEvents, h]

@[simp] theorem State.define_threshold : (s.define n cfg).attention.threshold = s.attention.threshold := rfl

@[simp] theorem State.define_listenersOf (c : Fin 8) :
    (s.define n cfg).listenersOf c = insertEntries n (entriesOn cfg n c) (removeEntries n (s.listenersOf c)) := by
  simp [State.define]

end

/-! ### The answers, line by line of R70 -/

section
variable {s : State} {k : Byte} {b : ConfigBlock} {n : Fin 16}

theorem exec_defineContext_of_range (hs : InFrame s) (hk : indexOf 16 k = none) :
    exec (.defineContext k b) s = .next (refusedWith 46 s .range) := by
  simp only [exec, execDefineContext, State.runCommand_of_inFrame hs, hk, Answer.refuse, refusedWith]

theorem exec_defineContext_of_state (hs : InFrame s) (hk : indexOf 16 k = some n)
    (hstate : ¬((s.ctx n).state = .free ∨ (s.ctx n).state = .idle)) :
    exec (.defineContext k b) s = .next (refusedWith 46 s .state) := by
  simp only [exec, execDefineContext, State.runCommand_of_inFrame hs, hk, if_pos (not_or.mp hstate), Answer.refuse, refusedWith]

theorem exec_defineContext_of_refuse {code : ResultCode} (hs : InFrame s) (hk : indexOf 16 k = some n)
    (hstate : (s.ctx n).state = .free ∨ (s.ctx n).state = .idle) (hj : judgeBlock b = .refuse code) :
    exec (.defineContext k b) s = .next (refusedWith 46 s code) := by
  simp only [exec, execDefineContext, State.runCommand_of_inFrame hs, hk, if_neg (not_and_or.mpr (hstate.imp not_not.mpr not_not.mpr)),
    hj, Answer.refuse, refusedWith]

theorem exec_defineContext_taken {cfg : CtxConfig} {clamped : Bool} (hs : InFrame s) (hk : indexOf 16 k = some n)
    (hstate : (s.ctx n).state = .free ∨ (s.ctx n).state = .idle) (hj : judgeBlock b = .take cfg clamped) :
    exec (.defineContext k b) s = .next (answered 46 (s.define n cfg) (if clamped then .clamped else .ok) [] .none) := by
  simp only [exec, execDefineContext, State.runCommand_of_inFrame hs, hk, if_neg (not_and_or.mpr (hstate.imp not_not.mpr not_not.mpr)),
    hj, Answer.taken]

end

/-- Settles O32: the context number, the state and then the checks on the block in the order of R70, each by its own equation; a block
that passes them all is stored, and the lists hold its entries beside those of the other contexts. -/
theorem defineContextJudged : Obligations.DefineContextJudged := by
  refine ⟨fun s k b hs hk => exec_defineContext_of_range hs (indexOf_of_le hk), fun s k b n hs hk => ?_⟩
  have hk := indexOf_of_eq hk
  refine ⟨fun hstate => exec_defineContext_of_state hs hk hstate,
    fun hstate hkind => exec_defineContext_of_refuse hs hk hstate (judgeBlock_of_not_kind hkind),
    fun hstate hkind hch => exec_defineContext_of_refuse hs hk hstate (judgeBlock_of_not_channels hkind hch),
    fun hstate hkind hch henum => exec_defineContext_of_refuse hs hk hstate (judgeBlock_of_not_enums hkind hch henum),
    fun hstate hkind hch henum hlim => exec_defineContext_of_refuse hs hk hstate (judgeBlock_of_not_limits hkind hch henum hlim),
    fun hstate hkind hch henum hlim => ?_⟩
  obtain ⟨cfg, clamped, hj, harmTime, hblock, hclamped⟩ := judgeBlock_of_checked hkind hch henum hlim
  refine ⟨s.define n cfg, cfg, clamped, exec_defineContext_taken hs hk hstate hj, s.define_frame n cfg, s.ctx_define_self n cfg,
    fun m hm => s.ctx_define_of_ne n cfg hm, s.source_define_self n cfg, s.define_threshold n cfg,
    fun id hid => s.source_define_of_ne n cfg hid, harmTime, hblock, hclamped, fun c => ⟨?others, ?own⟩⟩
  case others => rw [State.define_listenersOf, filter_ne_insertEntries fst_of_mem_entriesOn, removeEntries]
  case own =>
    rw [State.define_listenersOf, filter_eq_insertEntries fst_of_mem_entriesOn]
    exact entriesOn_of_toBlock hkind hblock n c

end Sys2Proof.Machine
end

section
/-! MODIFY CONTEXT (spec/04_measurement_contexts.md, section 4.3): the checks of R73 on the selection and the selected values, the
configuration they make, and the obligation O33 assembled from them. -/

namespace Sys2Proof.Machine

open Sys2Proof.Safety

section
variable (c : CtxConfig) (sel : BitVec 16) (v : ModifyBlock)

/-- Check 3 of R73 fails: a field that cannot be modified is selected. -/
def SelectsFixedField : Prop := ∃ j, 7 ≤ j ∧ j ≤ 13 ∧ selects sel j = true

/-- Check 4 of R73 fails: a field that the configuration does not hold is selected (R59). -/
def SelectsNotHeld : Prop :=
  (selects sel 3 = true ∧ c.kind ≠ .frequency ∧ ¬(c.kind = .totalize ∧ c.gateMode = .time)) ∨
    (selects sel 5 = true ∧ c.kind ≠ .interval) ∨ (selects sel 6 = true ∧ c.kind ≠ .totalize)

/-- Check 5 of R73: the selected enumerations. -/
def SelectedEnumsChecked : Prop :=
  (selects sel 0 = true → v.limitEnable.toNat < 2) ∧ (selects sel 2 = true → v.runMode.toNat < 2)

/-- The configuration with the selected fields replaced by the values sent, clamped as R72 gives (R73, R74). -/
def withSelected : CtxConfig :=
  { c with
    limitEnable := if selects sel 0 then decide (v.limitEnable = 1) else c.limitEnable
    lowLimit := if selects sel 0 then v.lowLimit else c.lowLimit
    highLimit := if selects sel 0 then v.highLimit else c.highLimit
    passCount :=
      if selects sel 1 then (if v.passCount = 0 ∧ v.skipCount ≠ 0 then 1 else .ofNat 8 (min 15 v.passCount.toNat)) else c.passCount
    skipCount := if selects sel 1 then .ofNat 8 (min 15 v.skipCount.toNat) else c.skipCount
    runMode := if selects sel 2 then (if v.runMode = 0 then .single else .continuous) else c.runMode
    gateTime := if selects sel 3 then .ofNat 40 (max 1 (min 100000000000 v.gateTime.toNat)) else c.gateTime
    watch := if selects sel 4 then (if v.watch = 0 then 100000000 else .ofNat 32 (min 100000000 v.watch.toNat)) else c.watch
    averaging := if selects sel 5 then .ofNat 16 (max 1 v.averaging.toNat) else c.averaging }

/-- Check 6 of R73: the limits that result, in order where they are enabled. -/
def LimitsInOrder : Prop := c.limitEnable = true → c.lowLimit ≤ c.highLimit

/-- A selected numeric field lies out of its range (R72). -/
def SelectedOutOfRange : Prop :=
  (selects sel 1 = true ∧ (15 < v.passCount.toNat ∨ 15 < v.skipCount.toNat ∨ (v.passCount = 0 ∧ v.skipCount ≠ 0))) ∨
    (selects sel 3 = true ∧ (v.gateTime = 0 ∨ 100000000000 < v.gateTime.toNat)) ∨
    (selects sel 4 = true ∧ 100000000 < v.watch.toNat) ∨ (selects sel 5 = true ∧ v.averaging = 0)

end

section
variable {c : CtxConfig} {sel : BitVec 16} {v : ModifyBlock}

/-! ### What the checks look at -/

/-- The mask of `selectsFixed` has the bits 7 to 13 (R178). -/
theorem getLsbD_fixedMask (j : Nat) : (0x3F80#16).getLsbD j = true ↔ 7 ≤ j ∧ j ≤ 13 := by
  by_cases hj : j < 16
  · have hall : ∀ i : Fin 16, (0x3F80#16).getLsbD i.val = true ↔ 7 ≤ i.val ∧ i.val ≤ 13 := by decide
    exact hall ⟨j, hj⟩
  · rw [BitVec.getLsbD_of_ge _ _ (Nat.le_of_not_lt hj)]
    simp only [Bool.false_eq_true, false_iff]
    omega

theorem selectsFixed_iff : selectsFixed sel = true ↔ SelectsFixedField sel := by
  have hbits : sel &&& 0x3F80#16 ≠ 0 ↔ ∃ j, (sel &&& 0x3F80#16).getLsbD j = true := by
    constructor
    · intro hne
      by_contra hnone
      exact hne (BitVec.eq_of_getLsbD_eq fun j _ => by simpa using fun h => hnone ⟨j, h⟩)
    · rintro ⟨j, hj⟩ hzero
      simp [hzero] at hj
  rw [selectsFixed, decide_eq_true_eq, hbits, SelectsFixedField]
  exact exists_congr fun j => by rw [BitVec.getLsbD_and, Bool.and_eq_true, getLsbD_fixedMask, and_comm, and_assoc, selects]

theorem selectsNotHeld_iff :
    ((selects sel 3 && !holdsGateTime c.kind c.gateMode) || (selects sel 5 && !holdsInterval c.kind) ||
      (selects sel 6 && !holdsTotal c.kind)) = true ↔ SelectsNotHeld c sel := by
  simp only [SelectsNotHeld, holdsGateTime, holdsInterval, holdsTotal, Bool.or_eq_true, Bool.and_eq_true, Bool.not_eq_true',
    Bool.or_eq_false_iff, ← Bool.decide_and, decide_eq_false_iff_not, ne_eq, or_assoc]

/-- SINGLE and CONTINUOUS are the run modes that a byte names (R177). -/
theorem runModeOf_of_lt {b : Byte} (h : b.toNat < 2) : runModeOf b = some (if b = 0 then .single else .continuous) := by
  obtain rfl | rfl : b = 0 ∨ b = 1 := by bv_omega
  all_goals rfl

theorem modifyClamped_iff : modifyClamped sel v = true ↔ SelectedOutOfRange sel v := by
  simp only [modifyClamped, SelectedOutOfRange, Bool.or_eq_true, Bool.and_eq_true, decide_eq_true_eq, clampPass_ne_iff,
    clampSkip_ne_iff, clampGateTime_ne_iff, clampAveraging_ne_iff, watchClamped_iff]
  tauto

/-- Fields decoded where they are selected and kept where they are not make the configuration of R73. -/
theorem modifiedConfig_eq :
    modifiedConfig c sel v (if selects sel 0 then decide (v.limitEnable = 1) else c.limitEnable)
      (if selects sel 2 then (if v.runMode = 0 then .single else .continuous) else c.runMode) = withSelected c sel v := by
  simp only [modifiedConfig, withSelected, clampPass_eq, clampSkip_eq, clampGateTime_eq, clampWatch_eq, clampAveraging_eq]
  congr 1
  · split_ifs <;> rfl
  · split_ifs <;> rfl

/-! ### The verdict, check by check -/

theorem judgeModify_of_fixed (h : SelectsFixedField sel) : judgeModify c sel v = .refuse .badField := by
  rw [judgeModify, if_pos (selectsFixed_iff.mpr h)]

theorem judgeModify_of_notHeld (hf : ¬SelectsFixedField sel) (h : SelectsNotHeld c sel) : judgeModify c sel v = .refuse .badField := by
  rw [judgeModify, if_neg (selectsFixed_iff.not.mpr hf), if_pos (selectsNotHeld_iff.mpr h)]

theorem judgeModify_of_not_enums (hf : ¬SelectsFixedField sel) (hh : ¬SelectsNotHeld c sel) (he : ¬SelectedEnumsChecked sel v) :
    judgeModify c sel v = .refuse .badField := by
  have hnone : (if selects sel 0 then onOffOf v.limitEnable else some c.limitEnable) = none ∨
      (if selects sel 2 then runModeOf v.runMode else some c.runMode) = none := by
    simp only [SelectedEnumsChecked, not_and_or, Classical.not_imp, Nat.not_lt] at he
    exact he.imp (fun ⟨hheld, hlim⟩ => readsBelow_onOffOf.held_eq_none hheld hlim)
      fun ⟨hheld, hrm⟩ => readsBelow_runModeOf.held_eq_none hheld hrm
  rw [judgeModify, if_neg (selectsFixed_iff.not.mpr hf), if_neg (selectsNotHeld_iff.not.mpr hh)]
  split
  · next hlim hrm => simp only [hlim, hrm, reduceCtorEq, or_self] at hnone
  · rfl

/-- Where checks 3 to 5 pass, the limits that result decide (R73 check 6). -/
theorem judgeModify_of_enums (hf : ¬SelectsFixedField sel) (hh : ¬SelectsNotHeld c sel) (he : SelectedEnumsChecked sel v) :
    judgeModify c sel v =
      if (withSelected c sel v).limitEnable ∧ (withSelected c sel v).highLimit < (withSelected c sel v).lowLimit then .refuse .badField
      else .take (withSelected c sel v) (modifyClamped sel v) := by
  obtain ⟨hlim, hrm⟩ := he
  have hlim : (if selects sel 0 then onOffOf v.limitEnable else some c.limitEnable) =
      some (if selects sel 0 then decide (v.limitEnable = 1) else c.limitEnable) := by
    split
    · next h => exact onOffOf_of_lt (hlim h)
    · rfl
  have hrm : (if selects sel 2 then runModeOf v.runMode else some c.runMode) =
      some (if selects sel 2 then (if v.runMode = 0 then .single else .continuous) else c.runMode) := by
    split
    · next h => exact runModeOf_of_lt (hrm h)
    · rfl
  rw [judgeModify, if_neg (selectsFixed_iff.not.mpr hf), if_neg (selectsNotHeld_iff.not.mpr hh), hlim, hrm]
  simp only [modifiedConfig_eq]

theorem limitsInOrder_iff (g : CtxConfig) : LimitsInOrder g ↔ ¬(g.limitEnable = true ∧ g.highLimit < g.lowLimit) := by
  rw [LimitsInOrder, not_and, BitVec.not_lt]

end

/-! ### The answers, line by line of R73 -/

section
variable {s : State} {k : Byte} {sel : BitVec 16} {v : ModifyBlock} {n : Fin 16}

theorem exec_modifyContext_of_range (hs : InFrame s) (hk : indexOf 16 k = none) :
    exec (.modifyContext k sel v) s = .next (refusedWith 34 s .range) := by
  simp only [exec, execModifyContext, State.runCommand_of_inFrame hs, hk, Answer.refuse, refusedWith]

theorem exec_modifyContext_of_free (hs : InFrame s) (hk : indexOf 16 k = some n) (hfree : (s.ctx n).state = .free) :
    exec (.modifyContext k sel v) s = .next (refusedWith 34 s .state) := by
  simp only [exec, execModifyContext, State.runCommand_of_inFrame hs, hk, if_pos hfree, Answer.refuse, refusedWith]

theorem exec_modifyContext_of_refuse {code : ResultCode} (hs : InFrame s) (hk : indexOf 16 k = some n)
    (hfree : (s.ctx n).state ≠ .free) (hj : judgeModify (s.ctx n).config sel v = .refuse code) :
    exec (.modifyContext k sel v) s = .next (refusedWith 34 s code) := by
  simp only [exec, execModifyContext, State.runCommand_of_inFrame hs, hk, if_neg hfree, hj, Answer.refuse, refusedWith]

theorem exec_modifyContext_taken {cfg : CtxConfig} {clamped : Bool} (hs : InFrame s) (hk : indexOf 16 k = some n)
    (hfree : (s.ctx n).state ≠ .free) (hj : judgeModify (s.ctx n).config sel v = .take cfg clamped) :
    exec (.modifyContext k sel v) s =
      .next (answered 34 (s.modCtx n fun c => c.modify sel cfg) (if clamped then .clamped else .ok) [] .none) := by
  simp only [exec, execModifyContext, State.runCommand_of_inFrame hs, hk, if_neg hfree, hj, Answer.taken]

end

/-- Settles O33: the context number, the state and then the checks of R73 in their order, each by its own equation; a selection that passes
them all changes the one context alone. -/
theorem modifyContextJudged : Obligations.ModifyContextJudged := by
  refine ⟨fun s k sel v hs hk => exec_modifyContext_of_range hs (indexOf_of_le hk), fun s k sel v n hs hk => ?_⟩
  have hk := indexOf_of_eq hk
  refine ⟨fun hfree => exec_modifyContext_of_free hs hk hfree,
    fun hfree hfixed => exec_modifyContext_of_refuse hs hk hfree (judgeModify_of_fixed hfixed),
    fun hfree hfixed hheld => exec_modifyContext_of_refuse hs hk hfree (judgeModify_of_notHeld hfixed hheld),
    fun hfree hfixed hheld henum => exec_modifyContext_of_refuse hs hk hfree (judgeModify_of_not_enums hfixed hheld henum),
    fun hfree hfixed hheld henum hlim => exec_modifyContext_of_refuse hs hk hfree ?unordered,
    fun hfree hfixed hheld henum hlim => ?taken⟩
  case unordered =>
    have hlim : ¬LimitsInOrder (withSelected (s.ctx n).config sel v) := hlim
    rw [limitsInOrder_iff, not_not] at hlim
    rw [judgeModify_of_enums hfixed hheld henum, if_pos hlim]
  case taken =>
    have hlim := (limitsInOrder_iff (withSelected (s.ctx n).config sel v)).mp hlim
    have hj := (judgeModify_of_enums hfixed hheld henum).trans (if_neg hlim)
    exact ⟨_, modifyClamped sel v, exec_modifyContext_taken hs hk hfree hj, rfl, fun m hm => s.ctx_modCtx_of_ne hm _,
      s.ctx_modCtx_self n _, modifyClamped_iff⟩

end Sys2Proof.Machine
end

section
/-! The attention commands (spec/09_attention.md, sections 9.2 to 9.4) and SET DRIFT LIMIT: what an outstanding set holds, which source CLAIM
chooses, how the settings are clamped, and the obligations O54 and O53 assembled from them. -/

namespace Sys2Proof.Machine

open Sys2Proof.Safety

/-! ### The outstanding set -/

/-- RESULT, cause 0, is the only place of the level cause (R154). -/
theorem and_causeResult_getLsbD (m : BitVec 4) (j : Nat) :
    (m &&& causeBit causeResult).getLsbD j = true ↔ j = 0 ∧ m.getLsbD 0 = true := by
  have hbit : (causeBit causeResult).getLsbD j = decide (j = 0) := by
    simp [causeBit, causeResult]
  rw [BitVec.getLsbD_and, hbit, Bool.and_eq_true, decide_eq_true_eq, and_comm]
  exact and_congr_right fun hj => by rw [hj]

theorem State.resultCause_contextSource (s : State) (n : Fin 16) :
    s.resultCause (contextSource n) =
      if (s.ctx n).record.fresh then (s.source (contextSource n)).mask &&& causeBit causeResult else 0 :=
  dif_pos n.isLt

theorem State.resultCause_of_no_context (s : State) {id : Fin 20} (h : 16 ≤ id.val) : s.resultCause id = 0 :=
  dif_neg (Nat.not_lt.mpr h)

/-- The sources below 16 are those of the contexts (R154). -/
theorem exists_contextSource_or_le (id : Fin 20) : (∃ n, id = contextSource n) ∨ 16 ≤ id.val :=
  (Nat.lt_or_ge id.val 16).imp_left fun h => ⟨⟨id.val, h⟩, rfl⟩

theorem contextSource_injective : Function.Injective contextSource := by
  intro n m h
  have hval := congrArg Fin.val h
  exact Fin.ext hval

/-- RESULT is the level of the fresh indication under the mask, on a context's source alone (R155). -/
theorem State.resultCause_getLsbD (s : State) (id : Fin 20) (j : Nat) :
    (s.resultCause id).getLsbD j = true ↔
      j = 0 ∧ (s.source id).mask.getLsbD 0 = true ∧ ∃ n : Fin 16, id = contextSource n ∧ (s.ctx n).record.fresh = true := by
  obtain ⟨n, rfl⟩ | hid := exists_contextSource_or_le id
  · have hctx : (∃ m, contextSource n = contextSource m ∧ (s.ctx m).record.fresh = true) ↔ (s.ctx n).record.fresh = true := by
      simp only [contextSource_injective.eq_iff, exists_eq_left']
    rw [hctx, State.resultCause_contextSource]
    split
    · next hfresh => simp only [and_causeResult_getLsbD, hfresh, and_true]
    · next hfresh => simp [hfresh]
  · rw [s.resultCause_of_no_context hid]
    refine iff_of_false (by simp) fun ⟨_, _, n, hn, _⟩ => ?_
    exact absurd (congrArg Fin.val hn) (Nat.ne_of_gt (Nat.lt_of_lt_of_le n.isLt hid))

theorem State.outstanding_getLsbD (s : State) (id : Fin 20) (j : Nat) :
    (s.outstanding id).getLsbD j = true ↔
      (s.source id).events.getLsbD j = true ∨
        (j = 0 ∧ (s.source id).mask.getLsbD 0 = true ∧ ∃ n : Fin 16, id = contextSource n ∧ (s.ctx n).record.fresh = true) := by
  rw [State.outstanding, BitVec.getLsbD_or, Bool.or_eq_true, State.resultCause_getLsbD]

/-- In a lawful controller RESULT is never held as an event, so its bit is the level alone (R155). -/
theorem State.outstanding_result_iff {s : State} (hlaw : AttentionLawful s) (n : Fin 16) :
    (s.outstanding (contextSource n)).getLsbD 0 = true ↔
      (s.ctx n).record.fresh = true ∧ (s.source (contextSource n)).mask.getLsbD 0 = true := by
  obtain ⟨_, _, hnoEvent⟩ := hlaw
  simp only [State.outstanding_getLsbD, hnoEvent n, Bool.false_eq_true, false_or, true_and, contextSource_injective.eq_iff,
    exists_eq_left', and_comm]

/-! ### The choice of CLAIM -/

theorem State.signalling_iff (s : State) (id : Fin 20) :
    s.signalling id = true ↔ s.outstanding id ≠ 0 ∧ s.attention.threshold ≤ (s.source id).priority := by
  simp only [State.signalling, Bool.and_eq_true, decide_eq_true_eq]

/-- The signalling sources in the order of their IDs. -/
def State.signallingSources (s : State) : List (Fin 20) := (List.finRange 20).filter s.signalling

theorem State.mem_signallingSources {s : State} {id : Fin 20} : id ∈ s.signallingSources ↔ s.signalling id = true := by
  simp only [State.signallingSources, List.mem_filter, List.mem_finRange, true_and]

theorem State.sortedLE_signallingSources (s : State) : s.signallingSources.SortedLE :=
  ((List.sortedLT_finRange 20).pairwise.filter _).sortedLT.sortedLE

/-- In a sorted list an element found no later is no greater. -/
theorem le_of_idxOf_le {α : Type} [LinearOrder α] {l : List α} (hl : l.SortedLE) {a b : α} (ha : a ∈ l) (hb : b ∈ l)
    (h : l.idxOf a ≤ l.idxOf b) : a ≤ b := by
  simpa using hl.getElem_le_getElem_of_le (hi := List.idxOf_lt_length_of_mem ha) (hj := List.idxOf_lt_length_of_mem hb) h

/-- The walk over the sources keeps the first of the highest priority among those that signal: it is the library's `argmax` (R160). -/
theorem State.claimChoice_eq_argmax (s : State) :
    s.claimChoice = s.signallingSources.argmax fun id => (s.source id).priority.toNat := by
  rw [State.claimChoice, List.argmax, State.signallingSources, List.foldl_filter]
  congr
  funext best id
  cases best <;> rfl

theorem State.claimChoice_eq_none_iff (s : State) : s.claimChoice = none ↔ ∀ id, ¬s.signalling id = true := by
  simp only [State.claimChoice_eq_argmax, List.argmax_eq_none, List.eq_nil_iff_forall_not_mem, State.mem_signallingSources]

/-- The chosen source signals, none that signals has a higher priority, and those of its priority have no lower ID (R160). -/
theorem State.claimChoice_some {s : State} {id : Fin 20} (h : s.claimChoice = some id) :
    s.signalling id = true ∧ (∀ k, s.signalling k = true → (s.source k).priority ≤ (s.source id).priority) ∧
      ∀ k, s.signalling k = true → (s.source k).priority = (s.source id).priority → id ≤ k := by
  rw [State.claimChoice_eq_argmax] at h
  obtain ⟨hmem, hmost, hfirst⟩ := List.argmax_eq_some_iff.mp h
  refine ⟨State.mem_signallingSources.mp hmem, fun k hk => hmost k (State.mem_signallingSources.mpr hk), fun k hk hp => ?_⟩
  have hk := State.mem_signallingSources.mpr hk
  exact le_of_idxOf_le s.sortedLE_signallingSources hmem hk (hfirst k hk (congrArg BitVec.toNat hp).ge)

/-! ### The commands -/

@[simp] theorem State.source_clearEvents_self (s : State) (id : Fin 20) :
    (s.clearEvents id).source id = { s.source id with events := 0 } :=
  s.source_setSource_self id _

@[simp] theorem State.source_clearEvents_of_ne (s : State) {id k : Fin 20} (h : k ≠ id) : (s.clearEvents id).source k = s.source k :=
  s.source_setSource_of_ne h _

section
variable {s : State}

theorem exec_claim_of_none (hs : InFrame s) (hc : s.claimChoice = none) : exec .claim s = .next (takenWith 0 s [255, 0, 0]) := by
  simp only [exec, execClaim, State.runCommand_of_inFrame hs, hc, Answer.taken, takenWith]

theorem exec_claim_of_some {id : Fin 20} (hs : InFrame s) (hc : s.claimChoice = some id) :
    exec .claim s =
      .next (takenWith 0 (s.clearEvents id)
        [BitVec.ofNat 8 id.val, (s.source id).priority.setWidth 8, (s.outstanding id).setWidth 8]) := by
  simp only [exec, execClaim, State.runCommand_of_inFrame hs, hc, Answer.taken, takenWith]

theorem exec_setPriority {k p m : Byte} {id : Fin 20} (hs : InFrame s) (hk : k.toNat = id.val) :
    exec (.setPriority k p m) s =
      .next (answered 3 (s.setSource id ((s.source id).setPriority id p m)) (if 15 < p.toNat then .clamped else .ok)
        (priorityBytes ((s.source id).setPriority id p m)) .none) := by
  simp only [exec, execSetPriority, State.runCommand_of_inFrame hs, indexOf_of_eq hk, Answer.taken]

theorem exec_setThreshold (hs : InFrame s) (k : Byte) :
    exec (.setThreshold k) s =
      .next (answered 1 { s with attention := { s.attention with threshold := clampThreshold k } }
        (if k = 0 ∨ 15 < k.toNat then .clamped else .ok) [(clampThreshold k).setWidth 8] .none) := by
  simp only [exec, execSetThreshold, State.runCommand_of_inFrame hs, Answer.taken]

/-- The drift limit that SET DRIFT LIMIT puts in force (R50). -/
def clampDriftLimit (l : BitVec 16) : BitVec 12 := if 4095 < l.toNat then 4095 else l.setWidth 12

theorem exec_setDriftLimit (hs : InFrame s) (l : BitVec 16) :
    exec (.setDriftLimit l) s =
      .next (answered 2 { s with engine := { s.engine with driftLimit := clampDriftLimit l } }
        (if 4095 < l.toNat then .clamped else .ok) (bytesOf 2 (clampDriftLimit l).toNat) .none) := by
  simp only [exec, execSetDriftLimit, State.runCommand_of_inFrame hs, Answer.taken, State.setEngine, clampDriftLimit]

end

/-- Settles O54: the outstanding set bit by bit, and CLAIM by whether a source is chosen. -/
theorem claimTakesMostUrgentSource : Obligations.ClaimTakesMostUrgentSource := by
  refine ⟨State.outstanding_getLsbD, fun s n hlaw => State.outstanding_result_iff hlaw n, fun s hs => ?_⟩
  simp only [← State.signalling_iff]
  refine ⟨fun hnone => exec_claim_of_none hs (s.claimChoice_eq_none_iff.mpr hnone), fun ⟨k, hk⟩ => ?_⟩
  cases hc : s.claimChoice with
  | none => exact absurd hk (s.claimChoice_eq_none_iff.mp hc k)
  | some id =>
    obtain ⟨hsignals, hmost, hlowest⟩ := State.claimChoice_some hc
    exact ⟨id, s.clearEvents id, hsignals, hmost, hlowest, exec_claim_of_some hs hc, rfl, rfl, s.source_clearEvents_self id,
      fun k hk => s.source_clearEvents_of_ne hk⟩

/-! ### The clamped settings -/

theorem toNat_clampPriority (p : Byte) : (clampPriority p).toNat = min 15 p.toNat := by
  unfold clampPriority
  split <;> bv_omega

theorem toNat_clampThreshold (k : Byte) : (clampThreshold k).toNat = max 1 (min 15 k.toNat) := by
  unfold clampThreshold
  split_ifs <;> bv_omega

theorem toNat_clampDriftLimit (l : BitVec 16) : (clampDriftLimit l).toNat = min 4095 l.toNat := by
  unfold clampDriftLimit
  split <;> bv_omega

/-- The causes of a source as R154 lists them: all four on a context's source, one on 16, three on 17, two on 18 and 19. -/
theorem causesOf_getLsbD (id : Fin 20) (j : Fin 4) :
    (causesOf id).getLsbD j.val = true ↔
      id.val < 16 ∨ (id.val = 16 ∧ j.val = 0) ∨ (id.val = 17 ∧ j.val ≤ 2) ∨ (18 ≤ id.val ∧ j.val ≤ 1) := by
  decide +revert

/-- A place is enabled exactly where the mask byte enables it and it names a cause of the source (R158). -/
theorem Source.setPriority_mask_getLsbD (x : Source) (id : Fin 20) (p m : Byte) (j : Fin 4) :
    (x.setPriority id p m).mask.getLsbD j.val = true ↔ m.getLsbD j.val = true ∧ (causesOf id).getLsbD j.val = true := by
  simp only [Source.setPriority, BitVec.getLsbD_and, BitVec.getLsbD_setWidth, j.isLt, decide_true, Bool.true_and, Bool.and_eq_true]

/-- Settles O53, one command after the other: each puts its clamped setting in force and returns it. -/
theorem settingsClampedAndReturned : Obligations.SettingsClampedAndReturned := by
  refine ⟨fun s k p m id hs hk => ?priority, fun s k hs => ?threshold, fun s l hs => ?driftLimit⟩
  case priority =>
    refine ⟨_, (s.source id).setPriority id p m, exec_setPriority hs hk, rfl, s.source_setSource_self id _, rfl,
      fun j hj => s.source_setSource_of_ne hj _, toNat_clampPriority p, fun j => ?_, rfl⟩
    rw [Source.setPriority_mask_getLsbD, causesOf_getLsbD]
  case threshold => exact ⟨_, exec_setThreshold hs k, toNat_clampThreshold k⟩
  case driftLimit => exact ⟨_, exec_setDriftLimit hs l, toNat_clampDriftLimit l⟩

end Sys2Proof.Machine
end

section
/-! The device commands of the port (spec/10_command_port.md, sections 10.1 and 10.3): what the outstanding-source mask of READ DEVICE
STATUS holds, which codes the frame table knows, and the obligations O6, O7 and O8 assembled from them. -/

namespace Sys2Proof.Machine

open Sys2Proof.Safety

/-! ### The outstanding-source mask -/

theorem flagBit_getLsbD {w k : Nat} (hk : k < w) (b : Bool) (j : Nat) :
    (flagBit w k b).getLsbD j = true ↔ j = k ∧ b = true := by
  cases b with
  | false => simp [flagBit]
  | true =>
    simp only [flagBit, if_true, ← BitVec.twoPow_eq, BitVec.getLsbD_twoPow, and_true, Bool.and_eq_true, decide_eq_true_eq]
    omega

/-- A fold of words by OR has a bit exactly where its start or one of the words has it. -/
theorem foldl_or_getLsbD {α : Type} {w : Nat} (f : α → BitVec w) (l : List α) (start : BitVec w) (j : Nat) :
    (l.foldl (fun acc x => acc ||| f x) start).getLsbD j = true ↔
      start.getLsbD j = true ∨ ∃ x ∈ l, (f x).getLsbD j = true := by
  induction l generalizing start with
  | nil => simp
  | cons x xs ih => simp only [List.foldl_cons, ih, BitVec.getLsbD_or, Bool.or_eq_true, List.exists_mem_cons_iff, or_assoc]

/-- Each place of the mask is that of the source of its number, and set while that source's outstanding set is not empty (R157). -/
theorem State.sourceMask_getLsbD (s : State) (j : Nat) :
    s.sourceMask.getLsbD j = true ↔ ∃ id : Fin 20, j = id.val ∧ s.outstanding id ≠ 0 := by
  have hbit (id : Fin 20) := flagBit_getLsbD (Nat.lt_trans id.isLt (by decide : 20 < 24)) (decide (s.outstanding id ≠ 0)) j
  have hzero : (0 : BitVec 24).getLsbD j = false := BitVec.getLsbD_zero
  simp only [State.sourceMask, foldl_or_getLsbD, hbit, List.mem_finRange, true_and, hzero, Bool.false_eq_true, false_or,
    decide_eq_true_eq]

theorem State.sourceMask_getLsbD_source (s : State) (id : Fin 20) : s.sourceMask.getLsbD id.val = true ↔ s.outstanding id ≠ 0 := by
  simp only [State.sourceMask_getLsbD, Fin.val_inj, exists_eq_left']

theorem State.sourceMask_getLsbD_of_le (s : State) {j : Nat} (hj : 20 ≤ j) : s.sourceMask.getLsbD j = false := by
  rw [← Bool.not_eq_true, State.sourceMask_getLsbD]
  rintro ⟨id, rfl, _⟩
  exact Nat.not_le.mpr id.isLt hj

/-! ### The codes of the frame table -/

/-- The codes of the frame table in its order (section 10.7). -/
def frameTableCodes : List Byte :=
  [0x00, 0x01, 0x02, 0x03, 0x08, 0x09, 0x0A, 0x10, 0x11, 0x12, 0x13, 0x14, 0x15, 0x16, 0x20, 0x21, 0x22, 0x23, 0x24, 0x25,
    0x28, 0x29, 0x2A, 0x30, 0x31, 0x32]

/-- Each line of `paramCount` but the last is that of a code of the table. -/
theorem mem_frameTableCodes_of_paramCount {code : Byte} {n : Nat} (h : paramCount code = some n) : code ∈ frameTableCodes := by
  have hmem (k : Nat) (hcode : code.toNat = k) (hk : BitVec.ofNat 8 k ∈ frameTableCodes) : code ∈ frameTableCodes := by
    rwa [← hcode, BitVec.ofNat_toNat, BitVec.setWidth_eq] at hk
  unfold paramCount at h
  split at h
  case h_27 => cases h
  all_goals exact hmem _ ‹_› (by decide)

theorem paramCount_of_unknown {code : Byte} (h : code ∉ frameTableCodes) : paramCount code = none :=
  Option.eq_none_iff_forall_ne_some.mpr fun _ hn => h (mem_frameTableCodes_of_paramCount hn)

/-- A code without a line in the table executes at its own byte, whatever follows it (R167). -/
theorem decodeFrame_of_unknown {code : Byte} (h : paramCount code = none) (rest : List Byte) :
    decodeFrame (code :: rest) = some (.unknownCommand code) := by
  simp only [decodeFrame, h]

/-! ### The commands -/

section
variable {s : State}

theorem exec_readDeviceStatus (hs : InFrame s) :
    exec .readDeviceStatus s =
      .next (takenWith 0 { s with port := { s.port with frameErr := false } } s.deviceStatus) := by
  simp only [exec, execReadDeviceStatus, State.runCommand_of_inFrame hs, Answer.taken, takenWith]

/-- The bytes of READ IDENTITY: vendor 0x0C1A, family 0x0810, revision 1 (R173). -/
theorem identityBytes_eq :
    bytesOf 2 Config.vendorCode ++ bytesOf 2 Config.familyCode ++ bytesOf 1 Config.revision = [0x0C, 0x1A, 0x08, 0x10, 0x01] := by
  decide

theorem exec_readIdentity (hs : InFrame s) :
    exec .readIdentity s = .next (takenWith 0 s [0x0C, 0x1A, 0x08, 0x10, 0x01]) := by
  simp only [exec, execReadIdentity, State.runCommand_of_inFrame hs, Answer.taken, takenWith, identityBytes_eq]

theorem exec_noOperation (hs : InFrame s) : exec .noOperation s = .next (takenWith 0 s []) := by
  simp only [exec, execNoOperation, State.runCommand_of_inFrame hs, Answer.taken, takenWith]

theorem exec_unknownCommand {code : Byte} (hs : InFrame s) (h : paramCount code = none) :
    exec (.unknownCommand code) s = .next (refusedWith 0 s .unknown) := by
  simp only [exec, execUnknownCommand, h, Option.isSome_none, Bool.false_eq_true, if_false, State.runCommand_of_inFrame hs,
    Answer.refuse, refusedWith]

end

/-- Settles O6: the mask and the two codes returned are `sourceMask`, `refStateCode` and `syncModeCode`, and each holds what R157 and R177
give it. -/
theorem deviceStatusReturned : Obligations.DeviceStatusReturned := by
  intro s hs
  exact ⟨s.sourceMask, refStateCode s.clock.monitor, syncModeCode s.clock.syncMode, exec_readDeviceStatus hs,
    s.sourceMask_getLsbD_source, fun _ hk => s.sourceMask_getLsbD_of_le hk, congrArg refStateCode, congrArg refStateCode,
    congrArg refStateCode, congrArg syncModeCode, congrArg syncModeCode⟩

/-- Settles O7: each of the two commands by its own equation. -/
theorem identityAndNoOperation : Obligations.IdentityAndNoOperation :=
  fun _ hs => ⟨exec_readIdentity hs, exec_noOperation hs⟩

/-- Settles O8: a code outside the table has no line in `paramCount`, on which both the decoder and the execution turn. -/
theorem unknownCodeAnswersUnknown : Obligations.UnknownCodeAnswersUnknown := by
  intro s code rest hs hcode
  have hnone : paramCount code = none := paramCount_of_unknown hcode
  exact ⟨decodeFrame_of_unknown hnone rest, exec_unknownCommand hs hnone⟩

end Sys2Proof.Machine
end

section
/-! What an event of a context comes to: a short run of moves, each with what guards it. A move rewrites a context without giving it an
unlawful gate or starting an unlawful run, raises a cause of its source, hands a gate on, ends the run or posts a result. The laws that
every step keeps are proved of each move once. -/

namespace Sys2Proof.Machine

open Sys2Proof.Safety

/-! ### The moves -/

/-- A gate of the context is open or awaits its closing edge. -/
def Context.gateOpen (c : Context) : Prop := c.state = .gating ∨ c.state = .closing

/-- A FREQUENCY gate that is open in `d` opened there (R91), or was open in `c` with the same start stamp and expiry tick. -/
def GateKept (c d : Context) : Prop :=
  d.config.kind = .frequency → d.gateOpen →
    d.live.expiryTick = tickOfStamp d.live.startStamp + gateTicks d.config.gateTime ∨
      c.gateOpen ∧ d.live.expiryTick = c.live.expiryTick ∧ d.live.startStamp = c.live.startStamp

/-- A context may run: it is active, or INIT has ended and every channel it is bound to is in service (R19, R58). -/
def State.mayRun (s : State) (n : Fin 16) : Prop :=
  (s.ctx n).state.active = true ∨ s.engine.init = false ∧ ∀ r ∈ (s.ctx n).config.roles, s.inService r.2.1 = true

/-- `d` may stand in place of context `n`: only the arm time of its configuration differs, slot and record stand, and where its state
differs the context was allowed to run and does. -/
structure Rewrites (s : State) (n : Fin 16) (d : Context) : Prop where
  config : d.config = { (s.ctx n).config with armTime := d.config.armTime }
  slot : d.slot = (s.ctx n).slot
  record : d.record = (s.ctx n).record
  state : d.state = (s.ctx n).state ∨ d.state.active = true ∧ s.mayRun n
  gate : GateKept (s.ctx n) d

/-- One move of a context. -/
inductive Move : State → State → Prop
  | write {s : State} {n : Fin 16} {d : Context} (h : Rewrites s n d) : Move s (s.setCtx n d)
  | raise {s : State} {n : Fin 16} {k : Fin 4} (h : k ≠ causeResult) : Move s (s.raise (contextSource n) k)
  | handOn {s : State} {n : Fin 16} {g : RawGate} (h : (s.ctx n).state.active = true) : Move s (s.handOn n g)
  | endRun {s : State} {n : Fin 16} {l : Live} : Move s ((s.setCtx n { s.ctx n with live := l }).endRun n)
  | post {s : State} {n : Fin 16} {f : Figures} {seq : BitVec 16} {flags : Flags} {p : Nat} : Move s (s.post n f seq flags p)
  | bus {s : State} {b : List BusItem} : Move s { s with bus := b }

/-- Moves one after the other. -/
abbrev Moves : State → State → Prop := Relation.ReflTransGen Move

namespace Moves

variable {n : Fin 16} {s t u : State}

/-- What every move keeps, moves keep. -/
theorem keeps {P : State → Prop} (hP : ∀ s t, Move s t → P s → P t) (h : Moves s t) (hs : P s) : P t := by
  induction h with
  | refl => exact hs
  | tail _ hm ih => exact hP _ _ hm ih

theorem write {d : Context} (h : Rewrites s n d) : Moves s (s.setCtx n d) := .single (.write h)

theorem ite {p : Prop} [Decidable p] (a : p → Moves s t) (b : Moves s u) : Moves s (if p then t else u) := by
  split
  · next h => exact a h
  · exact b

theorem foldl {α : Type} (f : State → α → State) (h : ∀ s a, Moves s (f s a)) : ∀ (l : List α) (s : State), Moves s (l.foldl f s)
  | [], _ => .refl
  | a :: l, s => (h s a).trans (foldl f h l (f s a))

end Moves

/-! ### Rewriting a context -/

theorem State.mayRun_of_active {s : State} {n : Fin 16} (h : (s.ctx n).state.active = true) : s.mayRun n := .inl h

/-- The roles do not speak of the arm time. -/
theorem roles_of_armTime {c d : CtxConfig} (h : d = { c with armTime := d.armTime }) : d.roles = c.roles := by
  rw [h]; rfl

/-- A context that is rewritten may run as before. -/
theorem Rewrites.mayRun {s : State} {n : Fin 16} {d : Context} (h : Rewrites s n d) (hr : s.mayRun n) : (s.setCtx n d).mayRun n := by
  unfold State.mayRun
  rw [State.ctx_setCtx_self, roles_of_armTime h.config]
  obtain hs | ⟨hs, -⟩ := h.state
  · rw [hs]
    exact hr
  · exact .inl hs

theorem Rewrites.active {s : State} {n : Fin 16} {d : Context} (h : Rewrites s n d) (hr : (s.ctx n).state.active = true) :
    ((s.setCtx n d).ctx n).state.active = true := by
  rw [State.ctx_setCtx_self]
  obtain hs | ⟨hs, -⟩ := h.state
  · rwa [hs]
  · exact hs

/-- A context with no FREQUENCY gate has none to keep. -/
theorem gateKept_of_kind {c d : Context} (h : d.config.kind ≠ .frequency) : GateKept c d := fun hk => absurd hk h

/-- A context whose state does not let a gate be open has none to keep. -/
theorem gateKept_of_state {c d : Context} (hg : d.state ≠ .gating) (hc : d.state ≠ .closing) : GateKept c d :=
  fun _ ho => absurd ho (not_or.mpr ⟨hg, hc⟩)

/-- A context in its state with its start stamp and expiry tick keeps its gate. -/
theorem gateKept_of_eq {c d : Context} (hs : d.state = c.state) (he : d.live.expiryTick = c.live.expiryTick)
    (hst : d.live.startStamp = c.live.startStamp) : GateKept c d :=
  fun _ ho => .inr ⟨by rwa [Context.gateOpen, hs] at ho, he, hst⟩

/-- Live figures changed but for the start stamp and the expiry tick. -/
theorem Moves.modLive (s : State) (n : Fin 16) (f : Live → Live) (he : (f (s.ctx n).live).expiryTick = (s.ctx n).live.expiryTick)
    (hs : (f (s.ctx n).live).startStamp = (s.ctx n).live.startStamp) : Moves s (s.modLive n f) :=
  Moves.write ⟨rfl, rfl, rfl, .inl rfl, gateKept_of_eq rfl he hs⟩

/-! ### FREQUENCY -/

namespace Moves

variable {n : Fin 16} {s : State}

/-- A run ends with its figures as they stand. -/
theorem endRun (s : State) (n : Fin 16) : Moves s (s.endRun n) := by
  have h : Moves s ((s.setCtx n { s.ctx n with live := (s.ctx n).live }).endRun n) := .single .endRun
  rwa [show s.setCtx n { s.ctx n with live := (s.ctx n).live } = s from s.setCtx_ctx n] at h

theorem frequencyStart (h : s.mayRun n) (m : Message) : Moves s (s.frequencyStart n m) :=
  write ⟨rfl, rfl, rfl, .inr ⟨rfl, h⟩, fun _ _ => .inl rfl⟩

theorem tallyItem (s : State) (n : Fin 16) : Moves s (s.tallyItem n) := ite (fun _ => modLive s n _ rfl rfl) .refl

theorem tallyItem_state (s : State) (n : Fin 16) : ((s.tallyItem n).ctx n).state = (s.ctx n).state := by
  unfold State.tallyItem
  split
  · rw [State.ctx_modLive_self]
  · rfl

/-- A gate handed on where the pattern passes it; the context stays active and keeps its configuration. -/
theorem handOnIf (h : (s.ctx n).state.active = true) (g : RawGate) (p : Bool) :
    Moves s (if p then s.handOn n g else s) ∧ ((if p then s.handOn n g else s).ctx n).state.active = true ∧
      ((if p then s.handOn n g else s).ctx n).config = (s.ctx n).config := by
  rw [ctx_ite_handOn]
  exact ⟨ite (fun _ => .single (.handOn h)) .refl, h, rfl⟩

theorem frequencyClose (h : (s.ctx n).state.active = true) (m : Message) : Moves s (s.frequencyClose n m) := by
  have hw : Rewrites s n { (s.ctx n).countClose with live := { (s.ctx n).live with flags := Flags.clear, deadline := none } } :=
    ⟨rfl, rfl, rfl, .inl rfl, gateKept_of_eq rfl rfl rfl⟩
  obtain ⟨hhand, hact, -⟩ := handOnIf (hw.active h) ((s.ctx n).frequencyGate m) (s.ctx n).patternPasses
  unfold State.frequencyClose
  dsimp only
  split
  · exact ((write hw).trans hhand).trans (endRun _ n)
  · exact ((write hw).trans hhand).trans (frequencyStart (.inl hact) m)

theorem frequencyMessage (s : State) (n : Fin 16) (m : Message) : Moves s (s.frequencyMessage n m) := by
  unfold State.frequencyMessage
  have htally (h : (s.ctx n).state.active = true) : ((s.tallyItem n).ctx n).state.active = true := by rwa [tallyItem_state]
  refine ite (fun _ => ?_) .refl
  split
  case h_1 hst => exact ite (fun _ => frequencyStart (.inl (by rw [hst]; rfl)) m) .refl
  case h_2 hst => exact ite (fun _ => (tallyItem s n).trans (frequencyClose (htally (by rw [hst]; rfl)) m)) (tallyItem s n)
  case h_3 hst => exact ite (fun _ => (tallyItem s n).trans (frequencyClose (htally (by rw [hst]; rfl)) m)) (tallyItem s n)
  all_goals exact .refl

theorem frequencyNotice (s : State) (n : Fin 16) (v : Notice) : Moves s (s.frequencyNotice n v) := by
  unfold State.frequencyNotice
  have hmark : Moves s (if laterTick v.tick (s.ctx n).live.expiryTick = true
      then (s.tallyItem n).modLive n fun l => { l with flags := { l.flags with blind := true } } else s.tallyItem n) :=
    ite (fun _ => (tallyItem s n).trans (modLive _ n _ rfl rfl)) (tallyItem s n)
  refine ite (fun _ => ?_) .refl
  split
  · exact hmark
  · exact hmark
  all_goals exact .refl

theorem gateExpiry (s : State) (n : Fin 16) : Moves s (s.gateExpiry n) :=
  ite (fun ⟨_, hst, _⟩ => write ⟨rfl, rfl, rfl, .inr ⟨rfl, .inl (by rw [hst]; rfl)⟩, fun _ _ => .inr ⟨.inl hst, rfl, rfl⟩⟩) .refl

theorem gateExpiryAtLast (s : State) (n : Fin 16) : Moves s (s.gateExpiryAtLast n) := ite (fun _ => gateExpiry s n) .refl

/-- A context that may run waits in STARTING. -/
theorem wait (h : s.mayRun n) (l : Live) : Moves s (s.setCtx n { s.ctx n with state := .starting, live := l }) :=
  write ⟨rfl, rfl, rfl, .inr ⟨rfl, h⟩, gateKept_of_state nofun nofun⟩

theorem frequencyWatch (h : (s.ctx n).state.active = true) : Moves s (s.frequencyWatch n) := by
  unfold State.frequencyWatch
  dsimp only
  split
  · exact .single .endRun
  · exact wait (.inl h) _

/-! ### INTERVAL -/

theorem intervalWait (h : s.mayRun n) (f : Stamp) (e : Tick) : Moves s (s.intervalWait n f e) := wait h _

theorem intervalRecordStart (hk : (s.ctx n).config.kind = .interval) (h : s.mayRun n) (m : HeldStop) :
    Moves s (s.intervalRecordStart n m) :=
  write ⟨rfl, rfl, rfl, .inr ⟨rfl, h⟩, gateKept_of_kind (by rw [hk]; nofun)⟩

theorem batchClose (hk : (s.ctx n).config.kind = .interval) (h : (s.ctx n).state.active = true) (m : HeldStop) :
    Moves s (s.batchClose n m) := by
  have hw : Rewrites s n { (s.ctx n).countClose with live := { (s.ctx n).live with flags := Flags.clear, batchOpen := false } } :=
    ⟨rfl, rfl, rfl, .inl rfl, gateKept_of_eq rfl rfl rfl⟩
  obtain ⟨hhand, hact, hcfg⟩ := handOnIf (hw.active h) (s.ctx n).intervalGate (s.ctx n).patternPasses
  have hclose := (write hw).trans hhand
  unfold State.batchClose
  dsimp only
  split
  · exact hclose.trans (endRun _ n)
  · refine ite (fun _ => hclose.trans (intervalRecordStart ?_ (.inl hact) m)) (hclose.trans (intervalWait (.inl hact) _ _))
    rw [← hk]
    exact congrArg CtxConfig.kind (hcfg.trans (by rw [State.ctx_setCtx_self]; rfl))

theorem intervalStop (hk : (s.ctx n).config.kind = .interval) (h : (s.ctx n).state.active = true) (m : HeldStop) :
    Moves s (s.intervalStop n m) := by
  unfold State.intervalStop
  extract_lets t c
  have hw : Rewrites s n (t.ctx n) := by
    rw [State.ctx_modCtx_self]
    exact ⟨rfl, rfl, rfl, .inl rfl, gateKept_of_kind (by rw [hk]; nofun)⟩
  have ht : t = s.setCtx n (t.ctx n) := by
    rw [State.ctx_modCtx_self]; rfl
  have hact : (t.ctx n).state.active = true := by rw [ht]; exact hw.active h
  have hkind : (t.ctx n).config.kind = .interval := by rw [State.ctx_modCtx_self]; exact hk
  have hadd : Moves s t := ht ▸ write hw
  exact ite (fun _ => hadd.trans (batchClose hkind hact m))
    (ite (fun _ => hadd.trans (intervalRecordStart hkind (.inl hact) m)) (hadd.trans (intervalWait (.inl hact) _ _)))

theorem intervalDrop (h : (s.ctx n).state.active = true) (k : Tick) : Moves s (s.intervalDrop n k) :=
  (modLive s n _ rfl rfl).trans (intervalWait (.inl (by rw [State.ctx_modLive_self]; exact h)) _ _)

theorem intervalStart (hk : (s.ctx n).config.kind = .interval) (h : (s.ctx n).state.active = true) (m : HeldStop) :
    Moves s (s.intervalStart n m) := by
  unfold State.intervalStart
  extract_lets held t c
  have hrec : Moves s t := intervalRecordStart hk (.inl h) m
  obtain ⟨l, hl, -⟩ := s.intervalRecordStart_eq n m
  have ht : t.ctx n = { s.ctx n with state := .gating, live := l } := by rw [show t = _ from hl, State.ctx_setCtx_self]
  have hact : (t.ctx n).state.active = true := by rw [ht]; rfl
  have hkind : (t.ctx n).config.kind = .interval := by rw [ht]; exact hk
  refine ite (fun _ => hrec) ?_
  split
  · exact hrec.trans (intervalDrop hact _)
  · split
    · exact hrec.trans (intervalStop hkind hact _)
    · exact hrec

theorem intervalMessageA (hk : (s.ctx n).config.kind = .interval) (m : Message) : Moves s (s.intervalMessageA n m) :=
  ite (fun ⟨hst, _⟩ => intervalStart hk (by rw [hst]; rfl) _) .refl

theorem intervalMessageB (hk : (s.ctx n).config.kind = .interval) (m : Message) : Moves s (s.intervalMessageB n m) := by
  unfold State.intervalMessageB
  refine ite (fun _ => ?_) .refl
  split
  case h_1 => exact ite (fun _ => modLive s n _ rfl rfl) .refl
  case h_2 hst => exact ite (fun _ => intervalStop hk (by rw [hst]; rfl) _) .refl
  all_goals exact .refl

theorem intervalNoticeB (s : State) (n : Fin 16) (v : Notice) : Moves s (s.intervalNoticeB n v) := by
  unfold State.intervalNoticeB
  refine ite (fun _ => ?_) .refl
  split
  case h_1 => exact ite (fun _ => modLive s n _ rfl rfl) .refl
  case h_2 hst => exact ite (fun _ => intervalDrop (by rw [hst]; rfl) _) .refl
  all_goals exact .refl

theorem intervalWatch (h : (s.ctx n).state.active = true) : Moves s (s.intervalWatch n) := by
  unfold State.intervalWatch
  dsimp only
  split
  · exact .single .endRun
  · have hwait := wait (.inl h) { (s.ctx n).live.discardBatch with
      heldStop := none
      heldNotice := none
      floor := (s.ctx n).expiryFloor
      entryTick := s.clock.timescale
      deadline := some (s.deadlineFrom n s.clock.timescale) }
    rw [State.intervalWait_eq, State.setCtx_setCtx, State.ctx_setCtx_self]
    exact hwait

/-! ### TOTALIZE -/

theorem totalOpen (hk : (s.ctx n).config.kind = .totalize) (h : s.mayRun n) (b : Boundary) (r k : Bool) :
    Moves s (s.totalOpen n b r k) :=
  write ⟨rfl, rfl, rfl, .inr ⟨rfl, h⟩, gateKept_of_kind (by rw [hk]; nofun)⟩

theorem totalContinue (hk : (s.ctx n).config.kind = .totalize) (h : (s.ctx n).state.active = true) (b : Boundary) :
    Moves s (s.totalContinue n b) := by
  unfold State.totalContinue
  dsimp only
  split
  · exact endRun s n
  · split
    · exact totalOpen hk (.inl h) b _ _
    · exact totalOpen hk (.inl h) b _ _
    · exact wait (.inl h) _

theorem totalClose (hk : (s.ctx n).config.kind = .totalize) (hst : (s.ctx n).state = .gating) (b : Boundary) (f : Flags) :
    Moves s (s.totalClose n b f) := by
  have hns : (s.ctx n).state ≠ .settling := by rw [hst]; nofun
  have hcount : Moves s (s.totalCounted n b f) := by
    have hw : Moves s (s.modCtx n fun c => { c.countClose with
        total := addTotal (s.ctx n).config.totalMode (s.ctx n).total (s.boundaryCount n b - (s.ctx n).live.openCount)
        live := { c.live with flags := Flags.clear, deadline := none } }) :=
      write ⟨rfl, rfl, rfl, .inl rfl, gateKept_of_eq rfl rfl rfl⟩
    exact ite (fun _ => hw.trans (.single .post)) hw
  have hctx := State.totalCounted_ctx hns b f
  refine hcount.trans (totalContinue ?_ ?_ b)
  · rw [hctx]; exact hk
  · rw [hctx]
    show (s.ctx n).state.active = true
    rw [hst]; rfl

theorem totalExpiry (s : State) (n : Fin 16) : Moves s (s.totalExpiry n) :=
  ite (fun ⟨hk, _, hst, _⟩ => totalClose hk hst _ _) .refl

theorem windowItem (hk : (s.ctx n).config.kind = .totalize) (e : EdgeSense) (b : Boundary) (l r k : Bool) :
    Moves s (s.windowItem n e b l r k) := by
  unfold State.windowItem
  dsimp only
  split
  case h_1 hst => exact ite (fun _ => totalOpen hk (.inl (by rw [hst]; rfl)) b r k) .refl
  case h_2 hst => exact ite (fun _ => totalClose hk hst b _) .refl
  all_goals exact .refl

theorem totalMessageB (hk : (s.ctx n).config.kind = .totalize) (m : Message) : Moves s (s.totalMessageB n m) :=
  ite (fun _ => windowItem hk _ _ _ _ _) .refl

theorem totalNoticeB (hk : (s.ctx n).config.kind = .totalize) (v : Notice) : Moves s (s.totalNoticeB n v) :=
  ite (fun _ => windowItem hk _ _ _ _ _) .refl

theorem windowWatch (h : (s.ctx n).state.active = true) : Moves s (s.windowWatch n) := by
  unfold State.windowWatch
  dsimp only
  split
  · exact .single .endRun
  · exact wait (.inl h) _

/-! ### Fulfilment, items, reached ticks -/

theorem fulfil (h : s.mayRun n) (b : Boundary) (p : Stamp) (r : Bool) : Moves s (s.fulfil n b p r) := by
  have hw : Rewrites s n { s.ctx n with live := { (s.ctx n).live with
      fulfilTick := b.tick, fulfilStamp := p, fulfilElapsed := b.elapsed, testFulfilment := true } } :=
    ⟨rfl, rfl, rfl, .inl rfl, gateKept_of_eq rfl rfl rfl⟩
  unfold State.fulfil
  extract_lets t c
  have hmark : Moves s t := write hw
  have hrun : t.mayRun n := hw.mayRun h
  split
  · exact hmark
  · exact hmark.trans (wait hrun _)
  · exact hmark.trans (intervalWait hrun _ _)
  case h_4 hk =>
    split
    · exact hmark.trans (totalOpen hk hrun b r false)
    · exact hmark.trans (totalOpen hk hrun b r false)
    · exact hmark.trans (wait hrun _)

theorem armTime (s : State) (n : Fin 16) : Moves s (s.armTime n) :=
  ite (fun ⟨hst, _⟩ => fulfil (.inl (by rw [hst]; rfl)) _ _ _) .refl

theorem armMessage (s : State) (n : Fin 16) (m : Message) : Moves s (s.armMessage n m) :=
  ite (fun ⟨hst, _⟩ => fulfil (.inl (by rw [hst]; rfl)) _ _ _) .refl

theorem takeMessage (s : State) (n : Fin 16) (m : Message) (r : Role) : Moves s (s.takeMessage n m r) := by
  unfold State.takeMessage
  split
  case h_1 => exact frequencyMessage s n m
  case h_2 hk => exact intervalMessageA hk m
  case h_6 hk => exact intervalMessageB hk m
  case h_7 hk => exact totalMessageB hk m
  case h_9 => exact armMessage s n m
  all_goals exact .refl

theorem takeNotice (s : State) (n : Fin 16) (v : Notice) (r : Role) : Moves s (s.takeNotice n v r) := by
  unfold State.takeNotice
  split
  case h_1 => exact frequencyNotice s n v
  case h_6 => exact intervalNoticeB s n v
  case h_7 hk => exact totalNoticeB hk v
  all_goals exact .refl

theorem applyItem (s : State) (n : Fin 16) (i : BusItem) : Moves s (s.applyItem n i) := by
  unfold State.applyItem
  refine ite (fun _ => .refl) ?_
  split
  · exact foldl _ (fun s r => takeMessage s n _ r) _ s
  · exact foldl _ (fun s r => takeNotice s n _ r) _ s

theorem deliver (s : State) (n : Fin 16) (c : Fin 8) (b : Bool) : Moves s (s.deliver n c b) := by
  unfold State.deliver
  split
  · exact .refl
  · exact ite (fun _ => .head .bus (applyItem _ n _)) .refl

theorem deliverOverdue (s : State) : Moves s s.deliverOverdue :=
  .head .bus (foldl _ (fun s i => foldl _ (fun s n => applyItem s n i) _ s) _ _)

theorem refLoss (s : State) (n : Fin 16) : Moves s (s.refLoss n) := ite (fun _ => modLive s n _ rfl rfl) .refl

/-- A watched wait is one of an active context. -/
theorem active_of_watched {c : Context} (h : c.watched = true) : c.state.active = true := by
  unfold Context.watched at h
  split at h
  case h_7 => cases h
  all_goals next hst => rw [hst]; rfl

/-- A watched TOTALIZE context outside window mode has its gate open. -/
theorem gating_of_watched {c : Context} (h : c.watched = true) (hk : c.config.kind = .totalize) (hg : c.config.gateMode ≠ .window) :
    c.state = .gating := by
  unfold Context.watched at h
  rw [hk] at h
  cases hst : c.state <;> simp_all

theorem manualWatch (h : (s.ctx n).watched = true) (hk : (s.ctx n).config.kind = .totalize) (hg : (s.ctx n).config.gateMode ≠ .window)
    {t : State} (ht : t.ctx n = s.ctx n) : Moves t (t.manualWatch n) :=
  totalClose (by rw [ht]; exact hk) (by rw [ht]; exact gating_of_watched h hk hg) _ _

theorem watchExpires (h : (s.ctx n).watched = true) : Moves s (s.watchExpires n) := by
  have hact : ((s.raise (contextSource n) causeTimeout).ctx n).state.active = true := active_of_watched h
  have hraise : Moves s (s.raise (contextSource n) causeTimeout) := .single (.raise (by decide))
  unfold State.watchExpires
  dsimp only
  split
  · exact hraise
  · exact hraise.trans (frequencyWatch hact)
  · exact hraise.trans (intervalWatch hact)
  case h_4 hk =>
    split
    case h_1 => exact hraise.trans (windowWatch hact)
    case h_2 hg => exact hraise.trans (manualWatch h hk (by rw [hg]; nofun) rfl)
    case h_3 hg => exact hraise.trans (manualWatch h hk (by rw [hg]; nofun) rfl)

theorem watch (s : State) (n : Fin 16) : Moves s (s.watch n) := ite (fun ⟨h, _⟩ => watchExpires h) .refl

theorem reachContext (s : State) (n : Fin 16) : Moves s (s.reachContext n) :=
  (((armTime s n).trans (gateExpiryAtLast _ n)).trans (totalExpiry _ n)).trans (watch _ n)

end Moves
end Sys2Proof.Machine
end

section
/-! What a command or an event can do, said once (`exec_step`): effects on the part, each with its guard, and beside them what the port does
in its frame, the passing of a tick, a load and power-on reset. Every law that each step keeps is proved of these, not of `exec`. -/

namespace Sys2Proof.Machine

open Sys2Proof.Safety

/-! ### The effects -/

/-- One effect that reaches a context or the quotient unit. -/
inductive ContextEffect : State → State → Prop
  | move {s t : State} (h : Move s t) : ContextEffect s t
  | softReset {s : State} (h : s.engine.init = false) : ContextEffect s { s.softReset with port := s.port }
  | define {s : State} {n : Fin 16} {b : ConfigBlock} {cfg : CtxConfig} {clamped : Bool}
      (hst : (s.ctx n).state = .free ∨ (s.ctx n).state = .idle) (hj : judgeBlock b = .take cfg clamped) : ContextEffect s (s.define n cfg)
  | modify {s : State} {n : Fin 16} {sel : BitVec 16} {v : ModifyBlock} {cfg : CtxConfig} {clamped : Bool}
      (hj : judgeModify (s.ctx n).config sel v = .take cfg clamped) : ContextEffect s (s.modCtx n fun c => c.modify sel cfg)
  | abortRun {s : State} {n : Fin 16} : ContextEffect s (s.abortRun n)
  | retire {s : State} {n : Fin 16} (hst : (s.ctx n).state = .idle) : ContextEffect s (s.retire n)
  | snapshot {s : State} {n : Fin 16} :
      ContextEffect s (s.setCtx n { s.ctx n with record := { (s.ctx n).record with fresh := false, overrun := false } })
  | take {s : State} {n : Fin 16} {rest : List (Fin 16)} {g : RawGate} (hw : s.quotient.work = none)
      (hq : s.quotient.queue = n :: rest) (hg : (s.ctx n).slot = some g) :
      ContextEffect s { s.setCtx n { s.ctx n with slot := none } with quotient := ⟨rest, some ⟨n, g, false⟩⟩ }
  | complete {s : State} {w : Work} (hw : s.quotient.work = some w) : ContextEffect s (s.completeWork w)

/-- One effect on the part. None of them moves the timescale, the port or the queue of commands. -/
inductive Effect : State → State → Prop
  | context {s t : State} (h : ContextEffect s t) : Effect s t
  | release {s : State} : Effect s { s with rstnLow := false }
  | setSync {s : State} {m : SyncMode} {v : Tick} : Effect s { s with clock := { s.clock with syncMode := m, preset := v } }
  | monitor {s : State} {r : RefState} (h : r ≠ .searching) : Effect s { s with clock := { s.clock with monitor := r } }
  | endSearch {s : State} : Effect s s.endSearch
  | notices {s : State} {l : Vector Nat 16} : Effect s { s with lossNotices := l }
  | cause {s : State} {id : Fin 20} {k : Fin 4} (h : 16 ≤ id.val) : Effect s (s.raise id k)
  | setPriority {s : State} {id : Fin 20} {p m : Byte} : Effect s (s.setSource id ((s.source id).setPriority id p m))
  | threshold {s : State} {x : BitVec 4} (h : x ≠ 0) : Effect s { s with attention := { s.attention with threshold := x } }
  | clearEvents {s : State} {id : Fin 20} : Effect s (s.clearEvents id)
  | configure {s : State} {c : Fin 8} {en : Bool} {pol : Polarity} {h : BitVec 12} (hheld : s.channelHeld c = false)
      (hphase : s.engine.phase c = .none) : Effect s (s.configure c en pol h)
  | edge {s : State} {c : Fin 8} {x : Channel} (h : x.enable = (s.channel c).enable) : Effect s (s.setChannel c x)
  | request {s : State} {k : CalKind} {c : Fin 8} (h : s.engine.init = false) : Effect s (State.request k s c).1
  | abortChannel {s : State} {c : Fin 8} (h : s.engine.init = false) : Effect s (s.abortChannel c).1
  | driftLimit {s : State} {l : BitVec 12} : Effect s (s.setEngine { s.engine with driftLimit := l })
  | start {s : State} {x : CalEntry} {rest : List CalEntry} (hr : s.engine.running = none) (hq : s.engine.queue = x :: rest) :
      Effect s (s.setEngine { s.engine with
        queue := rest, histogram := Vector.replicate 256 0, running := some ⟨x.channel, x.kind, 0, 0⟩ })
  | hit {s : State} {r : Running} {raw : Byte} (hr : s.engine.running = some r) : Effect s (s.setEngine (s.engine.hit r raw))
  | longComplete {s : State} {r : Running} (hr : s.engine.running = some r) : Effect s (s.longComplete r)
  | shortComplete {s : State} {r : Running} (hr : s.engine.running = some r) : Effect s (s.shortComplete r)
  | shortTimeout {s : State} : Effect s s.shortTimeout

/-- Effects one after the other. -/
abbrev Effects : State → State → Prop := Relation.ReflTransGen Effect

theorem Effects.ofContext {s t : State} (h : ContextEffect s t) : Effects s t := .single (.context h)

/-- Moves of contexts are effects. -/
theorem Moves.effects {s t : State} (h : Moves s t) : Effects s t := Relation.ReflTransGen.mono (fun _ _ h => Effect.context (.move h)) _ _ h

/-- What every effect keeps, effects keep. -/
theorem Effects.keeps {P : State → Prop} (hP : ∀ s t, Effect s t → P s → P t) {s t : State} (h : Effects s t) (hs : P s) : P t := by
  induction h with
  | refl => exact hs
  | tail _ he ih => exact hP _ _ he ih

/-! ### What a command or an event comes to -/

/-- A host command, a frame event, or the first byte of a record: what the port takes part in. -/
def UsesPort (c : Instr) : Prop :=
  (encodeFrame c).isSome = true ∨ c = .frameStart ∨ (∃ k, c = .frameDiscard k) ∨ c = .frameEnd ∨ c = .resultRecordSnapshot

/-- What a command or event makes of the part. Where the port takes part, it moves before and after the effects. -/
inductive Step (s : State) : Instr → State → Prop
  | port {c : Instr} {p q : Port} {t : State} (hc : UsesPort c) (h : Effects { s with port := p } t) : Step s c { t with port := q }
  | event {c : Instr} {t : State} (h : Effects s t) : Step s c t
  | load {p q : Port} {v : Tick} (h : s.anyActive = false) :
      Step s (.loadTimescale v) { (State.restamp { s with port := p } (v + 1)).setTimescale v with port := q }
  | tick {c : Instr} {t : State} (hc : c = .coarseTick ∨ c = .timescaleWrap) (h : Effects s t) : Step s c t.advance
  | syncRefused {t : State} (h : Effects s t) : Step s .syncEdge ((t.advance.raise sourceSync causeRefused).syncOff)
  | syncLoaded {t : State} (h : Effects s t) (ha : t.anyActive = false) :
      Step s .syncEdge
        (((t.restamp t.clock.preset).elapse.setTimescale t.clock.preset).raise sourceSync causeLoaded).syncOff
  | reset {f : FramePhase} :
      Step s .powerOnReset { State.reset with rstnLow := true, port := { Port.reset with frame := f }, pending := s.pending }

/-- What the run of a host command makes of the part: effects, the port's status byte out left; or a load of the timescale (R4, R165). -/
inductive RunEffect (t : State) : Instr → State → Prop
  | effects {c : Instr} {u : State} {q : Port} (h : Effects t u) (hq : q = u.port ∨ q.statusOut = t.port.statusOut) :
      RunEffect t c { u with port := q }
  | load {v : Tick} (h : t.anyActive = false) : RunEffect t (.loadTimescale v) ((t.restamp (v + 1)).setTimescale v)

/-- A host command: one run in its frame, of these effects. -/
def HostRun (c : Instr) : Prop :=
  ∃ (k : Nat) (run : State → Answer), (∀ s, exec c s = .next (s.runCommand k run)) ∧ ∀ t, RunEffect t c (run t).state

/-- A host command whose run leaves the port. -/
theorem HostRun.command {c : Instr} {k : Nat} {run : State → Answer} (hexec : ∀ s, exec c s = .next (s.runCommand k run))
    (h : ∀ t, Effects t (run t).state) : HostRun c :=
  ⟨k, run, hexec, fun t => .effects (q := (run t).state.port) (h t) (.inl rfl)⟩

/-- A host command that only reads or only sends leaves the part. -/
theorem HostRun.readOnly {c : Instr} {k : Nat} {run : State → Answer} (hexec : ∀ s, exec c s = .next (s.runCommand k run))
    (h : ∀ t, (run t).state = t) : HostRun c :=
  .command hexec fun t => by rw [h t]

/-- A host command is its run in its frame, or nothing where the port ignores it (R165, R176). -/
theorem HostRun.step {c : Instr} (h : HostRun c) (hc : (encodeFrame c).isSome = true) (s : State) : ∃ t, exec c s = .next t ∧ Step s c t := by
  obtain ⟨k, run, hexec, heffect⟩ := h
  refine ⟨_, hexec s, ?_⟩
  obtain hr | ⟨p, hr⟩ := s.runCommand_cases k run
  · rw [hr]
    exact .event .refl
  · have hrun := heffect { s with port := p }
    rw [hr, Answer.sent]
    generalize (run { s with port := p }).state = u at hrun
    cases hrun with
    | @effects _ u q h _ => exact .port (t := u) (.inl hc) h
    | load h => exact .load h

/-! ### The effects of the engine's commands and of edges -/

/-- Treating the masked channels one at a time is one effect for each, for as long as INIT stays clear. -/
theorem Effects.perChannel {f : State → Fin 8 → State × ResultCode} {s : State} (hs : s.engine.init = false)
    (hf : ∀ t c, t.engine.init = false → Effect t (f t c).1 ∧ (f t c).1.engine.init = false) (mask : Byte) :
    Effects s (s.perChannel mask f).1 := by
  rw [State.perChannel_eq]
  suffices h : ∀ k, Effects s (s.treatedBelow mask f k) ∧ (s.treatedBelow mask f k).engine.init = false from (h 8).1
  intro k
  induction k using Fin.induction with
  | zero => exact ⟨.refl, hs⟩
  | succ c ih =>
    rw [State.treatedBelow_succ, State.treat]
    split
    · exact ⟨ih.1.tail (hf _ c ih.2).1, (hf _ c ih.2).2⟩
    · exact ih

theorem State.request_init (k : CalKind) (s : State) (c : Fin 8) : (State.request k s c).1.engine.init = s.engine.init := by
  cases k
  · show (s.requestShort c).1.engine.init = _
    unfold State.requestShort
    dsimp only
    split_ifs <;> rfl
  · show (s.requestLong c).1.engine.init = _
    unfold State.requestLong
    dsimp only
    split_ifs <;> rfl

theorem State.abortChannel_init (s : State) (c : Fin 8) : (s.abortChannel c).1.engine.init = s.engine.init := by
  unfold State.abortChannel
  dsimp only
  split_ifs <;> rfl

/-- Putting an item on the bus is a change of the bus. -/
theorem Effects.emit (s : State) (i : BusItem) : Effects s (s.emit i) := by
  unfold State.emit
  split
  · exact .refl
  · exact .ofContext (.move .bus)

theorem Effects.shortHit (s : State) (c : Fin 8) (raw : Byte) : Effects s (s.shortHit c raw) := by
  unfold State.shortHit
  split
  · exact .refl
  · next r hr =>
    split
    · exact .single (.hit hr)
    · exact .refl

/-- An accepted edge is counted, may be a hit, and puts an item on the bus (R22, R24, R45). -/
theorem Effects.acceptEdge (s : State) (c : Fin 8) (sense : EdgeSense) (raw : Byte) (edgeTick time : Nat) :
    Effects s (s.acceptEdge c sense raw edgeTick time) := by
  unfold State.acceptEdge
  dsimp only
  split
  · exact (Relation.ReflTransGen.single (.edge rfl)).trans ((shortHit _ c raw).trans (emit _ _))
  · exact (Relation.ReflTransGen.single (.edge rfl)).trans (emit _ _)

/-! ### The effects of the contexts' commands and of a tick -/

/-- A taken ARM is moves of a context that may run (R76, R77). -/
theorem Moves.takeArm {s : State} {n : Fin 16} (hinit : s.engine.init = false) (hst : (s.ctx n).state = .idle)
    (hserve : ∀ r ∈ (s.ctx n).config.roles, s.inService r.2.1 = true) (a : Tick) : Moves s (s.takeArm n a) := by
  have hidle {d : Context} (hd : d.state = .idle) : GateKept (s.ctx n) d :=
    gateKept_of_state (by rw [hd]; nofun) (by rw [hd]; nofun)
  have hprep : Rewrites s n { s.ctx n with
      live := { Live.zero with armTick := s.clock.timescale, armElapsed := s.clock.elapsed }, position := 0, latePending := false } :=
    ⟨rfl, rfl, rfl, .inl rfl, hidle hst⟩
  have hrun : (s.prepare n).mayRun n := hprep.mayRun (.inr ⟨hinit, hserve⟩)
  have hprepared : Moves s (s.prepare n) := write hprep
  have hwaits {t : State} (ht : t.mayRun n) : Moves t (t.modCtx n fun c => { c with state := .armed }) :=
    write ⟨rfl, rfl, rfl, .inr ⟨rfl, ht⟩, gateKept_of_state nofun nofun⟩
  unfold State.takeArm
  dsimp only
  split
  · exact hprepared.trans (fulfil hrun _ _ _)
  · exact hprepared.trans (hwaits hrun)
  · have htime : Rewrites (s.prepare n) n { (s.prepare n).ctx n with config := { ((s.prepare n).ctx n).config with armTime := a } } :=
      ⟨rfl, rfl, rfl, .inl rfl, gateKept_of_eq rfl rfl rfl⟩
    have htimed := hprepared.trans (write htime)
    have hrun' := htime.mayRun hrun
    split
    · exact htimed.trans (fulfil hrun' _ _ _)
    · have hlate : Rewrites _ n { ((s.prepare n).modCtx n fun c => { c with config := { c.config with armTime := a } }).ctx n with
          latePending := true } := ⟨rfl, rfl, rfl, .inl rfl, gateKept_of_eq rfl rfl rfl⟩
      exact (htimed.trans (write hlate)).trans (fulfil (hlate.mayRun hrun') _ _ _)
    · exact htimed.trans (hwaits hrun')

/-- With no refusal every role's channel is in service (R76 check 4). -/
theorem State.inService_of_armRefusal {s : State} {n : Fin 16} (h : s.armRefusal n = none) :
    ∀ r ∈ (s.ctx n).config.roles, s.inService r.2.1 = true := by
  unfold State.armRefusal at h
  dsimp only at h
  split at h
  · cases h
  · next hall => simpa using hall

theorem Effects.searchTimeout (s : State) : Effects s s.searchTimeout := by
  unfold State.searchTimeout
  split
  · exact .single .endSearch
  · exact .refl

/-- What a tick first takes (log 7). -/
theorem Effects.settleTick (s : State) : Effects s s.settleTick :=
  have hdue : Moves s ((List.finRange 16).foldl (fun t n => t.reachContext n) s.deliverOverdue) :=
    (Moves.deliverOverdue s).trans (Moves.foldl _ (fun s n => Moves.reachContext s n) _ _)
  (Moves.effects hdue).tail .shortTimeout |>.trans (searchTimeout _)

/-! ### The host commands -/

theorem hostRun_readDeviceStatus : HostRun .readDeviceStatus :=
  ⟨_, _, fun _ => rfl, fun t => .effects (u := t) (q := { t.port with frameErr := false }) .refl (.inr rfl)⟩

theorem hostRun_softReset : HostRun .softReset := by
  refine ⟨_, _, fun _ => rfl, fun t => ?_⟩
  split
  · exact .effects (u := t) (q := t.port) .refl (.inl rfl)
  · next h =>
    exact .effects (u := { t.softReset with port := t.port }) (q := t.softReset.port)
      (.ofContext (.softReset (Bool.not_eq_true _ ▸ h))) (.inr rfl)

theorem hostRun_loadTimescale (v : Tick) : HostRun (.loadTimescale v) := by
  refine ⟨_, _, fun _ => rfl, fun t => ?_⟩
  split
  · exact .effects (u := t) (q := t.port) .refl (.inl rfl)
  · next h => exact .load (Bool.not_eq_true _ ▸ h)

theorem hostRun_setSync (m : Byte) (v : Tick) : HostRun (.setSync m v) := by
  refine .command (fun _ => rfl) fun t => ?_
  split
  · exact .refl
  · exact .single .setSync

theorem hostRun_configureChannel (k en pol : Byte) (h : BitVec 16) : HostRun (.configureChannel k en pol h) := by
  refine .command (fun _ => rfl) fun t => ?_
  split
  · exact .refl
  · split
    · split
      · exact .refl
      · next hfree =>
        rw [not_or, Bool.not_eq_true, not_not] at hfree
        exact .single (.configure hfree.1 hfree.2)
    · exact .refl

theorem hostRun_readChannel (k : Byte) : HostRun (.readChannel k) :=
  .readOnly (fun _ => rfl) fun _ => by split <;> rfl

theorem hostRun_calibrate (mask kind : Byte) : HostRun (.calibrate mask kind) := by
  refine .command (fun _ => rfl) fun t => ?_
  split
  · exact .refl
  · next hinit =>
    split
    · exact .refl
    · next k _ =>
      have h := Effects.perChannel (f := State.request k) (Bool.not_eq_true _ ▸ hinit)
        (fun u c hu => ⟨.request hu, (State.request_init k u c).trans hu⟩) mask
      cases k <;> exact h

theorem hostRun_abortCalibration (mask : Byte) : HostRun (.abortCalibration mask) := by
  refine .command (fun _ => rfl) fun t => ?_
  split
  · exact .refl
  · next hinit =>
    exact Effects.perChannel (Bool.not_eq_true _ ▸ hinit)
      (fun u c hu => ⟨.abortChannel hu, (State.abortChannel_init u c).trans hu⟩) mask

theorem hostRun_readCalibration (k : Byte) : HostRun (.readCalibration k) :=
  .readOnly (fun _ => rfl) fun _ => by split <;> rfl

theorem hostRun_readTable (k r : Byte) : HostRun (.readTable k r) :=
  .readOnly (fun _ => rfl) fun _ => by split <;> rfl

theorem hostRun_setDriftLimit (l : BitVec 16) : HostRun (.setDriftLimit l) :=
  .command (fun _ => rfl) fun _ => .single .driftLimit

theorem hostRun_defineContext (k : Byte) (b : ConfigBlock) : HostRun (.defineContext k b) := by
  refine .command (fun _ => rfl) fun t => ?_
  split
  · exact .refl
  · split
    · exact .refl
    · next hst =>
      split
      · exact .refl
      · next hj => exact .ofContext (.define (by rwa [not_and_or, not_not, not_not] at hst) hj)

theorem hostRun_modifyContext (k : Byte) (sel : BitVec 16) (v : ModifyBlock) : HostRun (.modifyContext k sel v) := by
  refine .command (fun _ => rfl) fun t => ?_
  split
  · exact .refl
  · split
    · exact .refl
    · split
      · exact .refl
      · next hj => exact .ofContext (.modify hj)

theorem hostRun_arm (k : Byte) (a : Tick) : HostRun (.arm k a) := by
  refine .command (fun _ => rfl) fun t => ?_
  split
  · exact .refl
  · split
    · exact .refl
    · next hinit =>
      split
      · exact .refl
      · next hst =>
        split
        · exact .refl
        · next hr =>
          exact Moves.effects (Moves.takeArm (Bool.not_eq_true _ ▸ hinit) (not_not.mp hst) (State.inService_of_armRefusal hr) a)

theorem hostRun_abort (k : Byte) : HostRun (.abort k) := by
  refine .command (fun _ => rfl) fun t => ?_
  split
  · exact .refl
  · split
    · exact .refl
    · split
      · exact .refl
      · exact .ofContext .abortRun

theorem hostRun_closeGate (k : Byte) : HostRun (.closeGate k) := by
  refine .command (fun _ => rfl) fun t => ?_
  split
  · exact .refl
  · dsimp only
    split
    · next h =>
      obtain ⟨hk, -, hst⟩ := h
      exact Moves.effects (Moves.totalClose hk hst _ _)
    · exact .refl

theorem hostRun_retire (k : Byte) : HostRun (.retire k) := by
  refine .command (fun _ => rfl) fun t => ?_
  split
  · exact .refl
  · split
    · exact .refl
    · next hst => exact .ofContext (.retire (not_not.mp hst))

theorem hostRun_readResult (k : Byte) : HostRun (.readResult k) :=
  .readOnly (fun _ => rfl) fun _ => by split <;> rfl

theorem hostRun_readLive (k : Byte) : HostRun (.readLive k) :=
  .readOnly (fun _ => rfl) fun _ => by split <;> rfl

theorem hostRun_readContext (k : Byte) : HostRun (.readContext k) :=
  .readOnly (fun _ => rfl) fun _ => by split <;> rfl

theorem hostRun_setPriority (k p m : Byte) : HostRun (.setPriority k p m) := by
  refine .command (fun _ => rfl) fun t => ?_
  split
  · exact .refl
  · exact .single .setPriority

theorem clampThreshold_ne_zero (k : Byte) : clampThreshold k ≠ 0 := by
  intro h
  have := toNat_clampThreshold k
  rw [h] at this
  change 0 = _ at this
  omega

theorem hostRun_setThreshold (k : Byte) : HostRun (.setThreshold k) :=
  .command (fun _ => rfl) fun _ => .single (.threshold (clampThreshold_ne_zero k))

theorem hostRun_claim : HostRun .claim := by
  refine .command (fun _ => rfl) fun t => ?_
  split
  · exact .refl
  · exact .single .clearEvents

theorem hostRun_unknownCommand {code : Byte} (h : paramCount code = none) : HostRun (.unknownCommand code) :=
  .readOnly (k := 0) (run := fun t => .refuse t .unknown) (fun s => by rw [exec, execUnknownCommand, h]; rfl) fun _ => rfl

/-- A host command is one run of the port; the model's unknown command of a known code is none, and nothing at all (log 22). -/
theorem hostRun_of_frame {c : Instr} (hc : (encodeFrame c).isSome = true) : HostRun c ∨ c.wellFormed = false ∧ ∀ s, exec c s = .next s := by
  cases c with
  | noOperation => exact .inl (.readOnly (fun _ => rfl) fun _ => rfl)
  | readDeviceStatus => exact .inl hostRun_readDeviceStatus
  | readIdentity => exact .inl (.readOnly (fun _ => rfl) fun _ => rfl)
  | softReset => exact .inl hostRun_softReset
  | readTimescale => exact .inl (.readOnly (fun _ => rfl) fun _ => rfl)
  | loadTimescale v => exact .inl (hostRun_loadTimescale v)
  | setSync m v => exact .inl (hostRun_setSync m v)
  | configureChannel k en pol h => exact .inl (hostRun_configureChannel k en pol h)
  | readChannel k => exact .inl (hostRun_readChannel k)
  | calibrate m k => exact .inl (hostRun_calibrate m k)
  | abortCalibration m => exact .inl (hostRun_abortCalibration m)
  | readCalibration k => exact .inl (hostRun_readCalibration k)
  | readTable k r => exact .inl (hostRun_readTable k r)
  | setDriftLimit l => exact .inl (hostRun_setDriftLimit l)
  | defineContext k b => exact .inl (hostRun_defineContext k b)
  | modifyContext k sel v => exact .inl (hostRun_modifyContext k sel v)
  | arm k a => exact .inl (hostRun_arm k a)
  | abort k => exact .inl (hostRun_abort k)
  | closeGate k => exact .inl (hostRun_closeGate k)
  | retire k => exact .inl (hostRun_retire k)
  | readResult k => exact .inl (hostRun_readResult k)
  | readLive k => exact .inl (hostRun_readLive k)
  | readContext k => exact .inl (hostRun_readContext k)
  | setPriority k p m => exact .inl (hostRun_setPriority k p m)
  | setThreshold k => exact .inl (hostRun_setThreshold k)
  | claim => exact .inl hostRun_claim
  | unknownCommand code =>
    cases h : paramCount code with
    | none => exact .inl (hostRun_unknownCommand h)
    | some _ => exact .inr ⟨by simp [Instr.wellFormed, h], fun s => by rw [exec, execUnknownCommand, h]; rfl⟩
  | _ => cases hc

section
variable (s : State)

/-! ### The frame events and the resets -/

theorem step_frameStart : ∃ t, exec .frameStart s = .next t ∧ Step s .frameStart t := by
  refine ⟨_, rfl, ?_⟩
  split
  · exact .event .refl
  · split
    · exact .port (p := s.port) (.inr (.inl rfl)) .refl
    · exact .port (p := s.port) (.inr (.inl rfl)) .refl

theorem step_frameDiscard (k : Nat) : ∃ t, exec (.frameDiscard k) s = .next t ∧ Step s (.frameDiscard k) t := by
  have hc : UsesPort (.frameDiscard k) := .inr (.inr (.inl ⟨k, rfl⟩))
  refine ⟨_, rfl, ?_⟩
  split
  · exact .port (p := s.port) hc .refl
  · dsimp only
    split
    · exact .port (p := s.port) hc .refl
    · obtain ⟨p, hp⟩ := s.openFrame_eq
      rw [hp]
      exact .port (p := s.port) (t := s) hc .refl

theorem step_frameEnd : ∃ t, exec .frameEnd s = .next t ∧ Step s .frameEnd t := by
  have hc : UsesPort .frameEnd := .inr (.inr (.inr (.inl rfl)))
  refine ⟨_, rfl, ?_⟩
  split
  · exact .port (p := s.port) hc .refl
  · split
    · exact .port (p := s.port) hc .refl
    · exact .event .refl

theorem step_resultRecordSnapshot : ∃ t, exec .resultRecordSnapshot s = .next t ∧ Step s .resultRecordSnapshot t := by
  have hc : UsesPort .resultRecordSnapshot := .inr (.inr (.inr (.inr rfl)))
  refine ⟨_, rfl, ?_⟩
  split
  · exact .event .refl
  · split
    · exact .port (p := s.port) hc (.ofContext .snapshot)
    · exact .event .refl
    · exact .event .refl

/-! ### The events of the timescale, the channels and the engine -/

theorem step_tick {c : Instr} (hc : c = .coarseTick ∨ c = .timescaleWrap) : Step s c s.tick := by
  unfold State.tick
  split
  · exact .event .refl
  · exact .tick hc (.settleTick s)

theorem step_timescaleWrap : ∃ t, exec .timescaleWrap s = .next t ∧ Step s .timescaleWrap t := by
  refine ⟨_, rfl, ?_⟩
  split
  · exact step_tick s (.inr rfl)
  · exact .event .refl

theorem step_syncEdge : ∃ t, exec .syncEdge s = .next t ∧ Step s .syncEdge t := by
  refine ⟨_, rfl, ?_⟩
  unfold State.syncTick
  split
  · exact .event .refl
  · dsimp only
    split
    · exact .syncRefused (.settleTick s)
    · next ha => exact .syncLoaded (.settleTick s) (Bool.not_eq_true _ ▸ ha)

theorem step_lockAchieved : ∃ t, exec .lockAchieved s = .next t ∧ Step s .lockAchieved t := by
  have hlock : Effects s { s with clock := { s.clock with monitor := .locked } } := .single (.monitor nofun)
  refine ⟨_, rfl, ?_⟩
  split
  · exact .event .refl
  · dsimp only
    split
    · exact .event (hlock.tail .endSearch)
    · exact .event .refl
    · exact .event (hlock.tail (.cause (by decide)))

theorem step_lockLost : ∃ t, exec .lockLost s = .next t ∧ Step s .lockLost t := by
  have hlost : Effects s { s with clock := { s.clock with monitor := .holdover } } := .single (.monitor nofun)
  refine ⟨_, rfl, ?_⟩
  split
  · exact .event .refl
  · split
    · exact .event .refl
    · exact .event ((hlost.tail (.cause (by decide))).tail .notices)
    · exact .event .refl

theorem step_referenceLossNotice (n : Fin 16) :
    ∃ t, exec (.referenceLossNotice n) s = .next t ∧ Step s (.referenceLossNotice n) t := by
  refine ⟨_, rfl, ?_⟩
  split
  · exact .event .refl
  · exact .event (.head .notices (Moves.effects (Moves.refLoss _ n)))

theorem step_inputEdge (c : Fin 8) (sense : EdgeSense) (raw : Byte) (before : BitVec 12) :
    ∃ t, exec (.inputEdge c sense raw before) s = .next t ∧ Step s (.inputEdge c sense raw before) t := by
  refine ⟨_, rfl, ?_⟩
  split
  · exact .event (.acceptEdge _ _ _ _ _ _)
  · exact .event .refl

theorem step_quotientTake : ∃ t, exec .quotientTake s = .next t ∧ Step s .quotientTake t := by
  refine ⟨_, rfl, ?_⟩
  split
  · next hw hq =>
    split
    · exact .event .refl
    · next hg => exact .event (.ofContext (.take hw hq hg))
  · exact .event .refl

theorem step_quotientComplete : ∃ t, exec .quotientComplete s = .next t ∧ Step s .quotientComplete t := by
  refine ⟨_, rfl, ?_⟩
  split
  · exact .event .refl
  · next hw => exact .event (.ofContext (.complete hw))

theorem step_calibrationStart : ∃ t, exec .calibrationStart s = .next t ∧ Step s .calibrationStart t := by
  refine ⟨_, rfl, ?_⟩
  split
  · next hr hq => exact .event (.single (.start hr hq))
  · exact .event .refl

theorem step_ringOscillatorHit (raw : Byte) : ∃ t, exec (.ringOscillatorHit raw) s = .next t ∧ Step s (.ringOscillatorHit raw) t := by
  refine ⟨_, rfl, ?_⟩
  split
  · exact .event .refl
  · next hr =>
    split
    · exact .event (.single (.hit hr))
    · exact .event .refl

theorem step_longCalibrationComplete :
    ∃ t, exec .longCalibrationComplete s = .next t ∧ Step s .longCalibrationComplete t := by
  refine ⟨_, rfl, ?_⟩
  split
  · exact .event .refl
  · next hr =>
    split
    · exact .event (.single (.longComplete hr))
    · exact .event .refl

theorem step_shortCalibrationComplete :
    ∃ t, exec .shortCalibrationComplete s = .next t ∧ Step s .shortCalibrationComplete t := by
  refine ⟨_, rfl, ?_⟩
  split
  · exact .event .refl
  · next hr =>
    split
    · exact .event (.single (.shortComplete hr))
    · exact .event .refl

end

/-! ### The inversion -/

theorem step_of_event {c : Instr} (hc : (encodeFrame c).isSome = false) (s : State) : ∃ t, exec c s = .next t ∧ Step s c t := by
  cases c with
  | frameStart => exact step_frameStart s
  | frameDiscard k => exact step_frameDiscard s k
  | frameEnd => exact step_frameEnd s
  | resultRecordSnapshot => exact step_resultRecordSnapshot s
  | powerOnReset => exact ⟨_, rfl, .reset⟩
  | resetRelease => exact ⟨_, rfl, .event (.single .release)⟩
  | coarseTick => exact ⟨_, rfl, step_tick s (.inl rfl)⟩
  | timescaleWrap => exact step_timescaleWrap s
  | syncEdge => exact step_syncEdge s
  | lockAchieved => exact step_lockAchieved s
  | lockLost => exact step_lockLost s
  | referenceLossNotice n => exact step_referenceLossNotice s n
  | referenceSearchTimeout => exact ⟨_, rfl, .event (.searchTimeout s)⟩
  | inputEdge c sense raw before => exact step_inputEdge s c sense raw before
  | stampedEdgeMessage n c => exact ⟨_, rfl, .event (Moves.effects (Moves.deliver s n c true))⟩
  | unstampedEdgeNotice n c => exact ⟨_, rfl, .event (Moves.effects (Moves.deliver s n c false))⟩
  | armTimeReached n => exact ⟨_, rfl, .event (Moves.effects (Moves.armTime s n))⟩
  | gateTimeExpiry n => exact ⟨_, rfl, .event (Moves.effects (Moves.gateExpiry s n))⟩
  | totalizeTimeExpiry n => exact ⟨_, rfl, .event (Moves.effects (Moves.totalExpiry s n))⟩
  | watchExpiry n => exact ⟨_, rfl, .event (Moves.effects (Moves.watch s n))⟩
  | quotientTake => exact step_quotientTake s
  | quotientComplete => exact step_quotientComplete s
  | calibrationStart => exact step_calibrationStart s
  | ringOscillatorHit raw => exact step_ringOscillatorHit s raw
  | longCalibrationComplete => exact step_longCalibrationComplete s
  | shortCalibrationComplete => exact step_shortCalibrationComplete s
  | shortCalibrationTimeout => exact ⟨_, rfl, .event (.single .shortTimeout)⟩
  | _ => cases hc

/-- Every command and event answers a next state, and this is all it can do. -/
theorem exec_step (c : Instr) (s : State) : ∃ t, exec c s = .next t ∧ Step s c t := by
  cases hc : (encodeFrame c).isSome with
  | true =>
    obtain h | ⟨-, h⟩ := hostRun_of_frame hc
    · exact h.step hc s
    · exact ⟨s, h s, .event .refl⟩
  | false => exact step_of_event hc s

/-- What a command or event made of the part it can have done in one of these ways. -/
theorem step_of_exec {c : Instr} {s t : State} (h : exec c s = .next t) : Step s c t := by
  obtain ⟨u, hu, hstep⟩ := exec_step c s
  rw [h] at hu
  cases hu
  exact hstep

/-- A law that neither the port nor the queue of commands, neither time nor an effect breaks, and that holds after power-on reset. -/
structure Kept (P : State → Prop) : Prop where
  effect : ∀ s t, Effect s t → P s → P t
  port : ∀ s p, P s → P { s with port := p }
  pending : ∀ s q, P s → P { s with pending := q }
  timescale : ∀ s v, P s → P (s.setTimescale v)
  elapse : ∀ s, P s → P s.elapse
  reset : P { State.reset with rstnLow := true }

/-- A law of this kind holds after every step where it held before. -/
theorem Kept.step {P : State → Prop} (k : Kept P) {s t : State} (hs : P s) (h : step s = .next t) : P t := by
  have hfx {s t : State} (h : Effects s t) : P s → P t := h.keeps k.effect
  have hcause {s : State} {id : Fin 20} {c : Fin 4} (h : 16 ≤ id.val) (hs : P s) : P (s.raise id c) := k.effect _ _ (.cause h) hs
  have hrestamp {s : State} {v : Tick} (hs : P s) : P (s.restamp v) := k.effect _ _ (.context (.move .bus)) hs
  have hsync {s : State} (hs : P s) : P s.syncOff := k.effect _ _ (.setSync (m := .off) (v := s.clock.preset)) hs
  have hadvance {s : State} (hs : P s) : P s.advance := by
    unfold State.advance
    dsimp only
    have ht := k.timescale _ (s.clock.timescale + 1) (k.elapse _ hs)
    split
    · exact hcause (by decide) ht
    · exact ht
  unfold Machine.step at h
  split at h
  · cases h
    exact hs
  · obtain hstep := step_of_exec h
    have hs' := k.pending s ‹_› hs
    cases hstep with
    | port _ he => exact k.port _ _ (hfx he (k.port _ _ hs'))
    | event he => exact hfx he hs'
    | load _ => exact k.port _ _ (k.timescale _ _ (hrestamp (k.port _ _ hs')))
    | tick _ he => exact hadvance (hfx he hs')
    | syncRefused he => exact hsync (hcause (by decide) (hadvance (hfx he hs')))
    | syncLoaded he _ => exact hsync (hcause (by decide) (k.timescale _ _ (k.elapse _ (hrestamp (hfx he hs')))))
    | reset => exact k.pending _ _ (k.port _ _ k.reset)

end Sys2Proof.Machine
end

section
/-! What the moves and the effects leave of the part outside the contexts: cited by every law. -/

namespace Sys2Proof.Machine

open Sys2Proof.Safety

/-- A move touches contexts, causes, the quotient queue and the edge bus, nothing else. -/
theorem Move.frame {s t : State} (h : Move s t) :
    { t with contexts := s.contexts, attention := s.attention, quotient := s.quotient, bus := s.bus } = s := by
  cases h with
  | write h => rfl
  | raise h => rfl
  | @handOn n g h => exact congrArg (fun u : State => { u with bus := s.bus }) (ContextOnly.handOn s n g).onlyContext.1
  | endRun => rfl
  | @post n f seq flags p => exact congrArg (fun u : State => { u with bus := s.bus }) (ContextOnly.post s n f seq flags p).onlyContext.1
  | bus => rfl

theorem Move.rstnLow {s t : State} (h : Move s t) : t.rstnLow = s.rstnLow := (congrArg State.rstnLow h.frame :)
theorem Move.clock {s t : State} (h : Move s t) : t.clock = s.clock := (congrArg State.clock h.frame :)
theorem Move.channels {s t : State} (h : Move s t) : t.channels = s.channels := (congrArg State.channels h.frame :)
theorem Move.engine {s t : State} (h : Move s t) : t.engine = s.engine := (congrArg State.engine h.frame :)
theorem Move.listeners {s t : State} (h : Move s t) : t.listeners = s.listeners := (congrArg State.listeners h.frame :)
theorem Move.port {s t : State} (h : Move s t) : t.port = s.port := (congrArg State.port h.frame :)
theorem Move.pending {s t : State} (h : Move s t) : t.pending = s.pending := (congrArg State.pending h.frame :)

/-- The work in the unit is touched by no move. -/
theorem Move.work {s t : State} (h : Move s t) : t.quotient.work = s.quotient.work := by
  cases h with
  | handOn h => exact (ContextOnly.handOn _ _ _).work
  | post => exact (ContextOnly.post _ _ _ _ _ _).work
  | write | raise | endRun | bus => rfl

/-- A request touches the calibration queue alone (R41, R42). -/
theorem State.request_eq (k : CalKind) (s : State) (c : Fin 8) :
    ∃ q, (State.request k s c).1 = s.setEngine { s.engine with queue := q } := by
  cases k
  · show ∃ q, (s.requestShort c).1 = _
    unfold State.requestShort
    dsimp only
    split_ifs <;> exact ⟨_, rfl⟩
  · show ∃ q, (s.requestLong c).1 = _
    unfold State.requestLong
    dsimp only
    split_ifs <;> exact ⟨_, rfl⟩

/-- The end of the reference search empties the search and lengthens the calibration queue (R10, R57). -/
theorem State.endSearch_eq (s : State) :
    (s.clock.search = none ∧ s.endSearch = s) ∨
      (s.clock.search.isSome = true ∧
        s.endSearch = { s with clock := { s.clock with search := none }, engine := s.engine.autoInit }) := by
  unfold State.endSearch
  cases h : s.clock.search
  · exact .inl ⟨rfl, rfl⟩
  · exact .inr ⟨rfl, rfl⟩

/-- A stopped channel leaves the rest of the engine: the running calibration goes if it is the channel's, its entries leave the queue
(R51). -/
theorem State.abortChannel_eq (s : State) (c : Fin 8) :
    (s.abortChannel c).1 = s ∨ ∃ (kind : CalKind) (h : Histogram) (empties : Bool),
      (s.abortChannel c).1 =
        let t := s.setEngine ({ s.engine with
          running := if s.engine.runs c .long || s.engine.runs c .short then none else s.engine.running
          histogram := h
          queue := s.engine.queue.filter fun x => decide (x.channel ≠ c) }.setOutcome c kind .aborted 0)
        if empties then t.emptyHistories c else t := by
  unfold State.abortChannel
  dsimp only
  split
  · exact .inl rfl
  · exact .inr ⟨_, _, s.engine.runs c .long, rfl⟩

/-- A timed-out short calibration leaves the engine idle and raises FAILED (R46). -/
theorem State.shortTimeout_eq (s : State) :
    s.shortTimeout = s ∨ ∃ r, s.engine.running = some r ∧ r.kind = .short ∧ r.ticks = Config.shortLimit ∧ r.hits < Config.shortHits ∧
      s.shortTimeout =
        (s.setEngine ({ s.engine with running := none, histogram := Vector.replicate 256 0 }.setOutcome r.channel .short .timeout 0)).raise
          sourceCalibration causeFailed := by
  unfold State.shortTimeout
  split
  · exact .inl rfl
  · next r hr =>
    split
    · next h => exact .inr ⟨r, hr, h.1, h.2.1, h.2.2, rfl⟩
    · exact .inl rfl

/-- The end of a computation touches one context, its causes and the unit (R141). -/
theorem State.completeWork_frame (s : State) (w : Work) :
    { s.completeWork w with contexts := s.contexts, attention := s.attention, quotient := s.quotient } = s := by
  unfold State.completeWork
  dsimp only
  split
  · rfl
  · exact congrArg (fun u : State => { u with quotient := s.quotient }) (ContextOnly.post _ _ _ _ _ _).onlyContext.1

theorem Engine.softReset_kept (e : Engine) :
    e.softReset.tables = e.tables ∧ e.softReset.running = none ∧ e.softReset.queue = [] ∧ e.softReset.init = e.init := by
  unfold Engine.softReset
  cases e.running <;> exact ⟨rfl, rfl, rfl, rfl⟩

/-- The engine's own effects, those on channels and those on the part's settings leave the contexts and the quotient unit. -/
theorem Effect.contexts_or {s t : State} (h : Effect s t) :
    ContextEffect s t ∨ t.contexts = s.contexts ∧ t.quotient = s.quotient := by
  cases h with
  | context h => exact .inl h
  | endSearch =>
    right
    obtain ⟨-, h⟩ | ⟨-, h⟩ := s.endSearch_eq <;> rw [h] <;> exact ⟨rfl, rfl⟩
  | @request k c _ =>
    right
    obtain ⟨q, h⟩ := State.request_eq k s c
    rw [h]
    exact ⟨rfl, rfl⟩
  | @abortChannel c _ =>
    right
    obtain h | ⟨kind, hist, empties, h⟩ := s.abortChannel_eq c
    · rw [h]
      exact ⟨rfl, rfl⟩
    · rw [h]
      cases empties <;> exact ⟨rfl, rfl⟩
  | longComplete _ =>
    right
    rw [State.longComplete_eq]
    exact ⟨rfl, rfl⟩
  | shortComplete _ =>
    right
    rw [State.shortComplete_eq]
    unfold State.raiseDrift
    split <;> exact ⟨rfl, rfl⟩
  | shortTimeout =>
    right
    obtain h | ⟨r, -, -, -, -, h⟩ := s.shortTimeout_eq <;> rw [h] <;> exact ⟨rfl, rfl⟩
  | _ => exact .inr ⟨rfl, rfl⟩

end Sys2Proof.Machine
end

section
/-! The calibration tables (spec/03_interpolator_calibration.md, sections 3.1 and 3.6): the fresh values as rounded code densities (O31), and
that every table rises at every step (O58). -/

namespace Sys2Proof.Machine

open Sys2Proof.Safety

/-! ### The cumulative counts -/

/-- One more code adds its own bin (R47). -/
theorem hitsBelow_succ (h : Histogram) (r : Fin 256) : hitsBelow h (r.val + 1) = hitsBelow h r.val + h[r].toNat := by
  have hr : r.val < h.toList.length := by simp
  simp [hitsBelow, List.take_succ_eq_append_getElem hr]

/-- The cumulative count as a sum over the codes below. -/
theorem hitsBelow_eq_sum (h : Histogram) (r : Nat) (hr : r ≤ 256) :
    hitsBelow h r = ∑ k ∈ Finset.univ.filter (fun k : Fin 256 => k.val < r), h[k].toNat := by
  induction r with
  | zero => simp [hitsBelow]
  | succ r ih =>
    have hset : Finset.univ.filter (fun k : Fin 256 => k.val < r + 1) =
        insert ⟨r, hr⟩ (Finset.univ.filter fun k : Fin 256 => k.val < r) := by
      ext k
      simp only [Finset.mem_filter, Finset.mem_univ, true_and, Finset.mem_insert, Fin.ext_iff]
      omega
    rw [hitsBelow_succ h ⟨r, hr⟩, ih (by omega), hset, Finset.sum_insert (by simp), add_comm]

theorem hitsBelow_mono (h : Histogram) {r k : Nat} (hrk : r ≤ k) (hk : k ≤ 256) : hitsBelow h r ≤ hitsBelow h k := by
  rw [hitsBelow_eq_sum h r (by omega), hitsBelow_eq_sum h k hk]
  exact Finset.sum_le_sum_of_subset fun x hx => by
    simp only [Finset.mem_filter, Finset.mem_univ, true_and] at hx ⊢
    omega

/-! ### The fresh values -/

/-- A quotient rounded half up is the one whose double lies in the interval of the divisor's length around the doubled dividend. -/
theorem roundHalfUp_spec (a : Nat) {b : Nat} (hb : 0 < b) :
    2 * b * roundHalfUp a b ≤ 2 * a + b ∧ 2 * a + b < 2 * b * (roundHalfUp a b + 1) :=
  ⟨Nat.mul_div_le _ _, Nat.lt_mul_div_succ _ (by omega)⟩

theorem roundHalfUp_mono {a a' : Nat} (h : a ≤ a') (b : Nat) : roundHalfUp a b ≤ roundHalfUp a' b :=
  Nat.div_le_div_right (by omega)

theorem toNat_freshTable (h : Histogram) (hits : Nat) (r : Fin 256) : (freshTable h hits)[r].toNat = freshValue h hits r.val := by
  have hlt : freshValue h hits r.val < 2 ^ 12 := by
    unfold freshValue
    omega
  simp only [freshTable, Fin.getElem_fin, Vector.getElem_ofFn, BitVec.toNat_ofNat, Nat.mod_eq_of_lt hlt]

/-- Fresh values never fall as the code rises (R47). -/
theorem tableRises_freshTable (h : Histogram) (hits : Nat) : TableRises (freshTable h hits) := by
  intro i j hij
  rw [BitVec.le_def, toNat_freshTable, toNat_freshTable]
  have hsum : hitsBelow h i.val + hitsBelow h (i.val + 1) ≤ hitsBelow h j.val + hitsBelow h (j.val + 1) :=
    Nat.add_le_add (hitsBelow_mono h hij (by omega)) (hitsBelow_mono h (Nat.succ_le_succ hij) (by omega))
  exact min_le_min_left _ (roundHalfUp_mono (Nat.mul_le_mul_right _ hsum) _)

/-- Settles O31: the cumulative counts are the sums of the statement, and the rounding is `roundHalfUp`. -/
theorem freshTableIsCodeDensity : Obligations.FreshTableIsCodeDensity := by
  intro h hits hpos
  refine ⟨fun r below upTo hbelow hupTo => ?_, tableRises_freshTable h hits⟩
  have hb : hitsBelow h r.val = below := by
    rw [hitsBelow_eq_sum h r.val (by omega), hbelow]
    rfl
  have hu : hitsBelow h (r.val + 1) = upTo := by
    rw [hitsBelow_eq_sum h _ (by omega), hupTo]
    simp only [Nat.lt_succ_iff, Fin.le_def]
  refine ⟨roundHalfUp ((below + upTo) * 4096) (2 * hits), ?_, ?_⟩
  · rw [toNat_freshTable, freshValue, hb, hu]
  · have hspec := roundHalfUp_spec ((below + upTo) * 4096) (b := 2 * hits) (by omega)
    rwa [← mul_assoc, show 2 * 2 * hits = 4 * hits by ring] at hspec

/-! ### The tables of the part -/

theorem tableRises_nominalTable : TableRises nominalTable := by
  intro i j hij
  have hij : i.val ≤ j.val := hij
  have hlt (r : Fin 256) : min 4095 (18 * r.val + 9) < 2 ^ 12 := by omega
  simp only [nominalTable, BitVec.le_def, Fin.getElem_fin, Vector.getElem_ofFn, BitVec.toNat_ofNat, Nat.mod_eq_of_lt (hlt _)]
  omega

/-- A blend of rising tables rises (R49). -/
theorem tableRises_blendTable {old fresh : FineTable} (ho : TableRises old) (hf : TableRises fresh) : TableRises (blendTable old fresh) := by
  intro i j hij
  have hi := ho i j hij
  have hj := hf i j hij
  rw [BitVec.le_def] at hi hj ⊢
  rw [toNat_blendTable, toNat_blendTable]
  omega

/-- An engine whose calibration ends with a rising table holds rising tables. -/
theorem Engine.finish_rises {e : Engine} {t : FineTable} (he : ∀ c : Fin 8, TableRises e.tables[c]) (ht : TableRises t) (c : Fin 8)
    (k : CalKind) (d : Nat) (passes : Bool) (c' : Fin 8) : TableRises (e.finish c k t d passes).tables[c'] := by
  by_cases hc : c' = c
  · subst hc
    cases passes
    · rw [(Engine.finish_failed e c' k t d).1]
      exact he c'
    · rw [(Engine.finish_passed e c' k t d).1]
      exact ht
  · rw [(Engine.finish_of_ne e c k t d passes hc).1]
    exact he c'

theorem Engine.longFinished_rises {e : Engine} (he : ∀ c : Fin 8, TableRises e.tables[c]) (r : Running) (passes : Bool) :
    ∀ c : Fin 8, TableRises (e.longFinished r passes).tables[c] :=
  Engine.finish_rises (e := { e with running := none, init := e.init && decide (r.channel ≠ 7) }) he (tableRises_freshTable _ _) _ _ _ _

theorem Engine.shortFinished_rises {e : Engine} (he : ∀ c : Fin 8, TableRises e.tables[c]) (r : Running) (passes : Bool) :
    ∀ c : Fin 8, TableRises (e.shortFinished r passes).tables[c] :=
  Engine.finish_rises (e := { e with running := none }) he (tableRises_blendTable (he r.channel) (tableRises_freshTable _ _)) _ _ _ _

/-- No effect lets a table fall: the completions install rising tables, the others leave the tables. -/
theorem Effect.tablesRise {s t : State} (h : Effect s t) (hs : TablesRise s) : TablesRise t := by
  have same {e : Engine} (he : e.tables = s.engine.tables) (c : Fin 8) : TableRises e.tables[c] := he ▸ hs c
  cases h with
  | context h =>
    cases h with
    | move h => exact same (congrArg Engine.tables h.engine)
    | softReset _ => exact same s.engine.softReset_kept.1
    | complete _ => exact same (congrArg (·.engine.tables) (s.completeWork_frame _))
    | _ => exact hs
  | endSearch =>
    obtain ⟨-, h⟩ | ⟨-, h⟩ := s.endSearch_eq
    · exact same (congrArg (·.engine.tables) h)
    · exact same (congrArg (·.engine.tables) h)
  | @request k c _ =>
    obtain ⟨q, h⟩ := State.request_eq k s c
    exact same (congrArg (·.engine.tables) h)
  | @abortChannel c _ =>
    obtain h | ⟨kind, hist, empties, h⟩ := s.abortChannel_eq c
    · exact same (congrArg (·.engine.tables) h)
    · rw [h]
      cases empties <;> exact same rfl
  | longComplete _ =>
    unfold TablesRise
    rw [State.longComplete_eq, State.raise_engine, State.emptyHistories_engine, State.setEngine_engine]
    exact Engine.longFinished_rises hs _ _
  | shortComplete _ =>
    unfold TablesRise
    rw [State.shortComplete_eq, State.raiseDrift_engine, State.raise_engine, State.setEngine_engine]
    exact Engine.shortFinished_rises hs _ _
  | shortTimeout => exact same (TickOnly.shortTimeout s).tables
  | _ => exact hs

theorem tablesRise_reset : TablesRise State.reset := fun c => by
  simpa [State.reset, Engine.reset] using tableRises_nominalTable

/-- Settles O58: no effect lets a table fall, and the nominal table rises. -/
theorem tablesKeepRising : Obligations.TablesKeepRising := fun _ _ hs h =>
  (Kept.mk (fun _ _ h => h.tablesRise) (fun _ _ => id) (fun _ _ => id) (fun _ _ => id) (fun _ => id) tablesRise_reset).step hs h

end Sys2Proof.Machine
end

section
/-! What the effects on contexts make of a context, each said once, and the law of records and attention (O57). -/

namespace Sys2Proof.Machine

open Sys2Proof.Safety

/-! ### The contexts after the effects on them -/

/-- What holds of every context holds after one of them is replaced by one of which it holds. -/
theorem State.forall_setCtx {P : Fin 16 → Context → Prop} {s : State} {n : Fin 16} {d : Context} (hs : ∀ m, P m (s.ctx m)) (hd : P n d)
    (m : Fin 16) : P m ((s.setCtx n d).ctx m) := by
  rw [State.ctx_setCtx]
  split
  · next h => exact h ▸ hd
  · exact hs m

theorem State.ctx_of_contexts {s t : State} (h : t.contexts = s.contexts) (n : Fin 16) : t.ctx n = s.ctx n := by
  unfold State.ctx
  rw [h]

@[simp] theorem State.ctx_softReset (s : State) (n : Fin 16) : s.softReset.ctx n = Context.free := by
  simp [State.softReset, State.ctx]

/-- ABORT writes its context twice, the slot last (R83). -/
theorem State.ctx_abortRun (s : State) (n m : Fin 16) :
    (s.abortRun n).ctx m =
      ((s.modCtx n fun c => { c with live := Live.zero, latePending := false, state := .idle }).modCtx n fun c =>
        { c with slot := none }).ctx m := rfl

/-- What ABORT leaves of a running context (R83). -/
@[simp] theorem State.ctx_abortRun_self (s : State) (n : Fin 16) :
    (s.abortRun n).ctx n = { s.ctx n with live := Live.zero, latePending := false, slot := none, state := .idle } := by
  rw [State.ctx_abortRun, State.ctx_modCtx_self, State.ctx_modCtx_self]

@[simp] theorem State.ctx_abortRun_of_ne (s : State) {n m : Fin 16} (h : m ≠ n) : (s.abortRun n).ctx m = s.ctx m := by
  rw [State.ctx_abortRun, State.ctx_modCtx_of_ne _ h, State.ctx_modCtx_of_ne _ h]

/-- What RETIRE leaves of an IDLE context (R84). -/
@[simp] theorem State.ctx_retire_self (s : State) (n : Fin 16) :
    (s.retire n).ctx n = { Context.free with slot := (s.ctx n).slot } := s.ctx_setCtx_self n _

@[simp] theorem State.ctx_retire_of_ne (s : State) {n m : Fin 16} (h : m ≠ n) : (s.retire n).ctx m = s.ctx m := s.ctx_setCtx_of_ne h _

/-- The unit is emptied, and work that is not void is posted (R141). -/
theorem State.completeWork_eq (s : State) (w : Work) :
    s.completeWork w =
      if w.void then { s with quotient := { s.quotient with work := none } }
      else
        State.post { s with quotient := { s.quotient with work := none } } w.context w.gate.figures.computed w.gate.seq
          { w.gate.flags with sat := w.gate.figures.saturates } w.gate.figures.primary := rfl

/-- The contexts right after power-on reset are FREE. -/
@[simp] theorem State.ctx_reset (n : Fin 16) : State.reset.ctx n = Context.free := by
  simp [State.reset, State.ctx]

/-! ### The records -/

/-- A record that a move changes is left fresh. -/
theorem Move.record_or {s t : State} (h : Move s t) (m : Fin 16) :
    (t.ctx m).record = (s.ctx m).record ∨ (t.ctx m).record.fresh = true := by
  cases h with
  | @write n d h =>
    by_cases hm : m = n
    · subst hm
      rw [State.ctx_setCtx_self]
      exact .inl h.record
    · rw [State.ctx_setCtx_of_ne _ hm]
      exact .inl rfl
  | raise _ => exact .inl rfl
  | @handOn n g _ =>
    by_cases hm : m = n
    · subst hm
      rw [State.handOn_ctx]
      exact .inl rfl
    · rw [(ContextOnly.handOn s n g).others m hm]
      exact .inl rfl
  | @endRun n l =>
    by_cases hm : m = n
    · subst hm
      rw [endRun_ctx, State.ctx_setCtx_self]
      exact .inl rfl
    · rw [(ContextOnly.endRun _ n).others m hm, State.ctx_setCtx_of_ne _ hm]
      exact .inl rfl
  | @post n f seq flags p =>
    by_cases hm : m = n
    · subst hm
      rw [State.post_ctx]
      exact .inr rfl
    · rw [(ContextOnly.post s n f seq flags p).others m hm]
      exact .inl rfl
  | bus => exact .inl rfl

/-- A move keeps overrun set only while fresh is. -/
theorem Move.overrunOnlyWhileFresh {s t : State} (h : Move s t) (hs : OverrunOnlyWhileFresh s) : OverrunOnlyWhileFresh t := by
  intro m hm
  obtain hrecord | hfresh := h.record_or m
  · rw [hrecord] at hm ⊢
    exact hs m hm
  · exact hfresh

/-- Overrun stays set only while fresh is: a posting sets both or fresh alone, a snapshot clears both (R149, R151). -/
theorem Effect.overrunOnlyWhileFresh {s t : State} (h : Effect s t) (hs : OverrunOnlyWhileFresh s) : OverrunOnlyWhileFresh t := by
  obtain h | ⟨h, -⟩ := h.contexts_or
  case inr =>
    intro m hm
    rw [State.ctx_of_contexts h m] at hm ⊢
    exact hs m hm
  have write {u : State} {n : Fin 16} {d : Context} (hu : OverrunOnlyWhileFresh u)
      (hd : d.record.overrun = true → d.record.fresh = true) : OverrunOnlyWhileFresh (u.setCtx n d) :=
    State.forall_setCtx (P := fun _ c => c.record.overrun = true → c.record.fresh = true) hu hd
  cases h with
  | move h => exact h.overrunOnlyWhileFresh hs
  | softReset _ =>
    intro m hm
    rw [show State.ctx { s.softReset with port := s.port } m = Context.free from s.ctx_softReset m] at hm
    cases hm
  | define _ _ => exact write hs nofun
  | @modify n _ _ _ _ _ => exact write hs (hs n)
  | @abortRun n => exact write (write hs (hs n)) (by rw [State.ctx_modCtx_self]; exact hs n)
  | retire _ => exact write hs nofun
  | snapshot => exact write hs nofun
  | @take n _ _ _ _ _ => exact write (u := s) (d := { s.ctx n with slot := none }) hs (hs n)
  | complete _ =>
    rw [State.completeWork_eq]
    split
    · exact hs
    · exact Move.overrunOnlyWhileFresh .post hs

/-! ### The attention controller -/

/-- A source as the laws want it: its mask within its causes, its event causes enabled, and RESULT no event cause of a context's source
(R155, R156, R158). -/
def SourceLawful (id : Fin 20) (x : Source) : Prop :=
  x.mask &&& causesOf id = x.mask ∧ x.events &&& x.mask = x.events ∧ (id.val < 16 → x.events.getLsbD 0 = false)

theorem attentionLawful_iff (s : State) : AttentionLawful s ↔ s.attention.threshold ≠ 0 ∧ ∀ id, SourceLawful id (s.source id) := by
  unfold AttentionLawful SourceLawful
  refine and_congr_right fun _ => ⟨fun ⟨h, hr⟩ id => ⟨(h id).1, (h id).2, fun hid => hr ⟨id.val, hid⟩⟩,
    fun h => ⟨fun id => ⟨(h id).1, (h id).2.1⟩, fun n => (h (contextSource n)).2.2 n.isLt⟩⟩

/-- Replacing a source by a lawful one. -/
theorem attentionLawful_setSource {s : State} (hs : AttentionLawful s) {id : Fin 20} {x : Source} (hx : SourceLawful id x) :
    AttentionLawful (s.setSource id x) := by
  rw [attentionLawful_iff] at hs ⊢
  refine ⟨hs.1, fun k => ?_⟩
  rw [State.source_setSource]
  split
  · next h => exact h ▸ hx
  · exact hs.2 k

/-- An enabled place joins the set; only on a context's source may it not be that of RESULT (R155). -/
theorem SourceLawful.raise {id : Fin 20} {x : Source} (hx : SourceLawful id x) {k : Fin 4} (hk : k ≠ causeResult ∨ 16 ≤ id.val) :
    SourceLawful id { x with events := x.events ||| (x.mask &&& causeBit k) } := by
  obtain ⟨hmask, hevents, hresult⟩ := hx
  refine ⟨hmask, ?_, fun hid => ?_⟩
  · have hand : x.mask &&& causeBit k &&& x.mask = x.mask &&& causeBit k := by
      rw [BitVec.and_comm, ← BitVec.and_assoc, BitVec.and_self]
    show (x.events ||| x.mask &&& causeBit k) &&& x.mask = x.events ||| x.mask &&& causeBit k
    rw [BitVec.and_comm, BitVec.and_or_distrib_left, BitVec.and_comm x.mask x.events, hevents, BitVec.and_comm x.mask, hand]
  · have hbit : (causeBit k).getLsbD 0 = false := by
      obtain hk | hk := hk
      · revert hk k
        decide
      · exact absurd hid (Nat.not_lt.mpr hk)
    rw [BitVec.getLsbD_or, BitVec.getLsbD_and, hresult hid, hbit, Bool.and_false, Bool.or_false]

theorem attentionLawful_raise {s : State} (hs : AttentionLawful s) {id : Fin 20} {k : Fin 4} (hk : k ≠ causeResult ∨ 16 ≤ id.val) :
    AttentionLawful (s.raise id k) :=
  attentionLawful_setSource hs ((((attentionLawful_iff s).mp hs).2 id).raise hk)

theorem attentionLawful_clearEvents {s : State} (hs : AttentionLawful s) (id : Fin 20) : AttentionLawful (s.clearEvents id) :=
  attentionLawful_setSource hs ⟨(((attentionLawful_iff s).mp hs).2 id).1, BitVec.zero_and, fun _ => BitVec.getLsbD_zero⟩

/-- SET PRIORITY holds the mask within the causes and the event causes within the mask (R158). -/
theorem SourceLawful.setPriority {id : Fin 20} {x : Source} (hx : SourceLawful id x) (p m : Byte) :
    SourceLawful id (x.setPriority id p m) := by
  refine ⟨?_, ?_, fun hid => ?_⟩
  · simp only [Source.setPriority, BitVec.and_assoc, BitVec.and_self]
  · simp only [Source.setPriority, BitVec.and_assoc, BitVec.and_self]
  · rw [Source.setPriority, BitVec.getLsbD_and, hx.2.2 hid, Bool.false_and]

theorem attentionLawful_postingCauses {s : State} (hs : AttentionLawful s) (n : Fin 16) (a b : Bool) :
    AttentionLawful (s.postingCauses n a b) := by
  cases a <;> cases b
  · exact hs
  · exact attentionLawful_raise hs (.inl (by decide))
  · exact attentionLawful_raise hs (.inl (by decide))
  · exact attentionLawful_raise (attentionLawful_raise hs (k := causeOverrun) (.inl (by decide))) (.inl (by decide))

/-- A move raises no RESULT. -/
theorem Move.attentionLawful {s t : State} (h : Move s t) (hs : AttentionLawful s) : AttentionLawful t := by
  cases h with
  | raise h => exact attentionLawful_raise hs (.inl h)
  | @handOn n g _ =>
    by_cases hslot : (s.ctx n).slot = none
    · rw [State.handOn_of_empty hslot]
      exact hs
    · rw [State.handOn_of_queued hslot]
      exact attentionLawful_raise hs (.inl (by decide))
  | post =>
    unfold State.post
    dsimp only
    rw [State.settleContext_eq]
    exact attentionLawful_postingCauses (s := s.setCtx _ _) hs _ _ _
  | write | endRun | bus => exact hs

theorem attentionLawful_reset {s : State} (h : s.attention = Attention.reset) : AttentionLawful s := by
  rw [attentionLawful_iff]
  have hsource (id : Fin 20) : s.source id = ⟨0, causesOf id, 0⟩ := by
    simp [State.source, h, Attention.reset]
  refine ⟨by rw [h]; decide, fun id => ?_⟩
  rw [hsource]
  exact ⟨BitVec.and_self, BitVec.zero_and, fun _ => BitVec.getLsbD_zero⟩

/-- No effect breaks the attention settings. -/
theorem Effect.attentionLawful {s t : State} (h : Effect s t) (hs : AttentionLawful s) : AttentionLawful t := by
  have raised {u : State} {k : Fin 4} (hu : AttentionLawful u) : AttentionLawful (u.raise sourceCalibration k) :=
    attentionLawful_raise hu (.inr (by decide))
  cases h with
  | context h =>
    cases h with
    | move h => exact h.attentionLawful hs
    | softReset _ => exact attentionLawful_reset rfl
    | @define n _ _ _ _ _ => exact attentionLawful_clearEvents hs (contextSource n)
    | @retire n _ => exact attentionLawful_clearEvents hs (contextSource n)
    | complete _ =>
      rw [State.completeWork_eq]
      split
      · exact hs
      · exact Move.attentionLawful .post hs
    | _ => exact hs
  | cause h => exact attentionLawful_raise hs (.inr h)
  | @setPriority id p m => exact attentionLawful_setSource hs ((((attentionLawful_iff s).mp hs).2 id).setPriority p m)
  | threshold h => exact ⟨h, hs.2⟩
  | @clearEvents id => exact attentionLawful_clearEvents hs id
  | endSearch =>
    obtain ⟨-, h⟩ | ⟨-, h⟩ := s.endSearch_eq <;> rw [h] <;> exact hs
  | @request k c _ =>
    obtain ⟨q, h⟩ := State.request_eq k s c
    rw [h]
    exact hs
  | @abortChannel c _ =>
    obtain h | ⟨kind, hist, empties, h⟩ := s.abortChannel_eq c
    · rw [h]
      exact hs
    · rw [h]
      cases empties <;> exact hs
  | longComplete _ =>
    rw [State.longComplete_eq]
    exact raised hs
  | shortComplete _ =>
    rw [State.shortComplete_eq]
    unfold State.raiseDrift
    split
    · exact raised (raised hs)
    · exact raised hs
  | shortTimeout =>
    obtain h | ⟨r, -, -, -, -, h⟩ := s.shortTimeout_eq <;> rw [h]
    · exact hs
    · exact raised hs
  | _ => exact hs

theorem overrunOnlyWhileFresh_reset : OverrunOnlyWhileFresh State.reset := fun n h => by
  rw [State.ctx_reset] at h
  cases h

/-- Settles O57: the two laws hold at reset and no effect breaks either. -/
theorem recordsAndAttentionKept : Obligations.RecordsAndAttentionKept := fun _ _ hr ha h =>
  (Kept.mk (P := fun s => OverrunOnlyWhileFresh s ∧ AttentionLawful s)
    (fun _ _ h hs => ⟨h.overrunOnlyWhileFresh hs.1, h.attentionLawful hs.2⟩) (fun _ _ => id) (fun _ _ => id) (fun _ _ => id) (fun _ => id)
    ⟨overrunOnlyWhileFresh_reset, attentionLawful_reset rfl⟩).step ⟨hr, ha⟩ h

end Sys2Proof.Machine
end

section
/-! The quotient queue, the closed-gate slots and the states of the contexts (O56). -/

namespace Sys2Proof.Machine

open Sys2Proof.Safety

/-! ### The two laws, context by context -/

/-- A context's state agrees with whether a gate of it is pending (R65, R66). -/
def PendingAgrees (x : CtxState) (pending : Bool) : Prop :=
  (x = .idle ∨ x = .free → pending = false) ∧ (x = .settling → pending = true)

theorem pendingMatchesStates_iff (s : State) : PendingMatchesStates s ↔ ∀ n, PendingAgrees (s.ctx n).state (s.gatePending n) := Iff.rfl

theorem pendingAgrees_of_active {x : CtxState} (h : x.active = true) (p : Bool) : PendingAgrees x p := by
  refine ⟨?_, ?_⟩
  · rintro (rfl | rfl) <;> cases h
  · rintro rfl
    cases h

theorem pendingAgrees_of_none {x : CtxState} (h : x ≠ .settling) : PendingAgrees x false := ⟨fun _ => rfl, fun hs => absurd hs h⟩

theorem pendingAgrees_endRun (p : Bool) : PendingAgrees (if p then .settling else .idle) p := by
  cases p <;> exact ⟨by simp, by simp⟩

theorem queueMatchesSlots_of_eq {s t : State} (hs : QueueMatchesSlots s) (hq : t.quotient.queue = s.quotient.queue)
    (hslot : ∀ m, (t.ctx m).slot = (s.ctx m).slot) : QueueMatchesSlots t := by
  unfold QueueMatchesSlots
  rw [hq]
  exact ⟨hs.1, fun m => by rw [hslot m]; exact hs.2 m⟩

theorem State.unitHolds_of_work {s t : State} (h : t.quotient.work = s.quotient.work) (n : Fin 16) : t.unitHolds n = s.unitHolds n := by
  unfold State.unitHolds
  rw [h]

theorem State.gatePending_of_eq {s t : State} {n : Fin 16} (hslot : (t.ctx n).slot = (s.ctx n).slot)
    (hw : t.quotient.work = s.quotient.work) : t.gatePending n = s.gatePending n := by
  unfold State.gatePending
  rw [hslot, State.unitHolds_of_work hw]

/-- The laws seen from another part with the same contexts and unit. -/
theorem gateLaws_of_eq {s t : State} (hctx : t.contexts = s.contexts) (hq : t.quotient = s.quotient)
    (hs : QueueMatchesSlots s ∧ PendingMatchesStates s) : QueueMatchesSlots t ∧ PendingMatchesStates t := by
  refine ⟨queueMatchesSlots_of_eq hs.1 (by rw [hq]) fun m => by rw [State.ctx_of_contexts hctx],
    (pendingMatchesStates_iff _).mpr fun m => ?_⟩
  rw [State.gatePending_of_eq (s := s) (by rw [State.ctx_of_contexts hctx]) (by rw [hq]), State.ctx_of_contexts hctx]
  exact hs.2 m

/-- Replacing a context without its slot: the new state has to agree with what is pending. -/
theorem gateLaws_setCtx {s : State} {n : Fin 16} {d : Context} (hs : QueueMatchesSlots s ∧ PendingMatchesStates s)
    (hslot : d.slot = (s.ctx n).slot) (hd : PendingAgrees d.state (s.gatePending n)) :
    QueueMatchesSlots (s.setCtx n d) ∧ PendingMatchesStates (s.setCtx n d) := by
  have hall (m : Fin 16) : ((s.setCtx n d).ctx m).slot = (s.ctx m).slot := by
    rw [State.ctx_setCtx]
    split
    · next h => exact h ▸ hslot
    · rfl
  refine ⟨queueMatchesSlots_of_eq hs.1 rfl hall, (pendingMatchesStates_iff _).mpr fun m => ?_⟩
  rw [State.gatePending_of_eq (s := s) (hall m) rfl, State.ctx_setCtx]
  split
  · next h => exact h ▸ hd
  · exact hs.2 m

/-! ### The moves -/

/-- A gate handed on goes into an EMPTY slot with a queue entry, or into a QUEUED one that has its entry (R101, R102). -/
theorem gateLaws_handOn {s : State} {n : Fin 16} (g : RawGate) (hs : QueueMatchesSlots s ∧ PendingMatchesStates s)
    (ha : (s.ctx n).state.active = true) : QueueMatchesSlots (s.handOn n g) ∧ PendingMatchesStates (s.handOn n g) := by
  obtain ⟨⟨hnodup, hmem⟩, hpending⟩ := hs
  have hslot (m : Fin 16) : ((s.handOn n g).ctx m).slot.isSome = true ↔ m = n ∨ (s.ctx m).slot.isSome = true := by
    by_cases hm : m = n
    · subst hm
      rw [State.handOn_ctx]
      exact ⟨fun _ => .inl rfl, fun _ => rfl⟩
    · rw [(ContextOnly.handOn s n g).others m hm]
      exact ⟨.inr, fun h => h.resolve_left hm⟩
  refine ⟨?_, fun m => ?_⟩
  · by_cases hempty : (s.ctx n).slot = none
    · have hn : n ∉ s.quotient.queue := fun h => by simpa [hempty] using (hmem n).mp h
      have hqueue : (s.handOn n g).quotient.queue = s.quotient.queue ++ [n] := by rw [State.handOn_of_empty hempty]
      unfold QueueMatchesSlots
      rw [hqueue]
      refine ⟨hnodup.append (List.nodup_singleton n) (by simpa using hn), fun m => ?_⟩
      rw [hslot m, List.mem_append, List.mem_singleton, hmem m, or_comm]
    · have hn : (s.ctx n).slot.isSome = true := Option.isSome_iff_ne_none.mpr hempty
      have hqueue : (s.handOn n g).quotient.queue = s.quotient.queue := by rw [State.handOn_of_queued hempty]; rfl
      unfold QueueMatchesSlots
      rw [hqueue]
      refine ⟨hnodup, fun m => ?_⟩
      rw [hslot m, hmem m]
      exact ⟨.inr, fun h => h.elim (fun e => e ▸ hn) id⟩
  · by_cases hm : m = n
    · subst hm
      rw [State.handOn_ctx]
      exact pendingAgrees_of_active ha _
    · have hctx := (ContextOnly.handOn s n g).others m hm
      rw [State.gatePending_of_eq (s := s) (by rw [hctx]) (ContextOnly.handOn s n g).work, hctx]
      exact hpending m

/-- A posting settles its context: the law may fail there before it, by a SETTLING context with nothing pending (R66, R149). -/
theorem gateLaws_post {s : State} {n : Fin 16} (f : Figures) (seq : BitVec 16) (flags : Flags) (p : Nat) (hq : QueueMatchesSlots s)
    (hothers : ∀ m, m ≠ n → PendingAgrees (s.ctx m).state (s.gatePending m))
    (hself : (s.ctx n).state = .idle ∨ (s.ctx n).state = .free → s.gatePending n = false) :
    QueueMatchesSlots (s.post n f seq flags p) ∧ PendingMatchesStates (s.post n f seq flags p) := by
  have hquot := s.post_quotient n f seq flags p
  have hslot (m : Fin 16) : ((s.post n f seq flags p).ctx m).slot = (s.ctx m).slot := by
    by_cases hm : m = n
    · subst hm
      rw [State.post_ctx]
    · rw [(ContextOnly.post s n f seq flags p).others m hm]
  refine ⟨queueMatchesSlots_of_eq hq (by rw [hquot]) hslot, (pendingMatchesStates_iff _).mpr fun m => ?_⟩
  rw [State.gatePending_of_eq (hslot m) (by rw [hquot])]
  by_cases hm : m = n
  · subst hm
    rw [State.post_ctx]
    dsimp only
    split
    · next h =>
      rw [h.2]
      exact pendingAgrees_of_none nofun
    · next h => exact ⟨hself, fun hst => by simpa [hst] using h⟩
  · rw [(ContextOnly.post s n f seq flags p).others m hm]
    exact hothers m hm

theorem Move.gateLaws {s t : State} (h : Move s t) (hs : QueueMatchesSlots s ∧ PendingMatchesStates s) :
    QueueMatchesSlots t ∧ PendingMatchesStates t := by
  cases h with
  | @write n d h =>
    refine gateLaws_setCtx hs h.slot ?_
    obtain hst | ⟨hst, -⟩ := h.state
    · rw [hst]
      exact hs.2 n
    · exact pendingAgrees_of_active hst _
  | raise _ => exact gateLaws_of_eq rfl rfl hs
  | @handOn n g h => exact gateLaws_handOn g hs h
  | @endRun n l =>
    unfold State.endRun State.modCtx
    rw [State.setCtx_setCtx]
    rw [State.gatePending_of_eq (s := s) (t := s.setCtx n { s.ctx n with live := l }) (by rw [State.ctx_setCtx_self]) rfl,
      State.ctx_setCtx_self]
    exact gateLaws_setCtx hs rfl (pendingAgrees_endRun _)
  | @post n f seq flags p => exact gateLaws_post f seq flags p hs.1 (fun m _ => hs.2 m) (hs.2 n).1
  | bus => exact gateLaws_of_eq rfl rfl hs

/-! ### ABORT, the taking and the completion -/

/-- ABORT takes the slot, the queue entry and the work of its context away (R83, R139). -/
theorem gateLaws_abortRun {s : State} (n : Fin 16) (hs : QueueMatchesSlots s ∧ PendingMatchesStates s) :
    QueueMatchesSlots (s.abortRun n) ∧ PendingMatchesStates (s.abortRun n) := by
  obtain ⟨⟨hnodup, hmem⟩, hpending⟩ := hs
  have hqueue : (s.abortRun n).quotient.queue = s.quotient.queue.filter fun m => decide (m ≠ n) := rfl
  have hunit (m : Fin 16) : (s.abortRun n).unitHolds m = if m = n then false else s.unitHolds m := by
    have hwork : (s.abortRun n).quotient.work = s.quotient.work.map fun w => if w.context = n then { w with void := true } else w := rfl
    unfold State.unitHolds
    rw [hwork]
    cases s.quotient.work with
    | none => simp
    | some w =>
      simp only [Option.map_some]
      by_cases hw : w.context = n
      · by_cases hm : m = n
        · simp [hw, hm]
        · simp [hw, hm, Ne.symm hm]
      · by_cases hm : m = n
        · simp [hw, hm]
        · simp [hw, hm]
  refine ⟨?_, (pendingMatchesStates_iff _).mpr fun m => ?_⟩
  · unfold QueueMatchesSlots
    rw [hqueue]
    refine ⟨hnodup.filter _, fun m => ?_⟩
    by_cases hm : m = n
    · subst hm
      simp
    · rw [State.ctx_abortRun_of_ne s hm, List.mem_filter, hmem m]
      simp [hm]
  · by_cases hm : m = n
    · subst hm
      rw [State.gatePending, hunit, if_pos rfl, State.ctx_abortRun_self]
      exact pendingAgrees_of_none nofun
    · rw [State.gatePending, hunit, if_neg hm, State.ctx_abortRun_of_ne s hm]
      exact hpending m

/-- The taking moves the gate from the slot and the queue's head into the unit (R140). -/
theorem gateLaws_take {s : State} {n : Fin 16} {rest : List (Fin 16)} {g : RawGate} (hw : s.quotient.work = none)
    (hq : s.quotient.queue = n :: rest) (hg : (s.ctx n).slot = some g) (hs : QueueMatchesSlots s ∧ PendingMatchesStates s) {t : State}
    (ht : t = { s.setCtx n { s.ctx n with slot := none } with quotient := ⟨rest, some ⟨n, g, false⟩⟩ }) :
    QueueMatchesSlots t ∧ PendingMatchesStates t := by
  obtain ⟨⟨hnodup, hmem⟩, hpending⟩ := hs
  rw [hq, List.nodup_cons] at hnodup
  have hself : t.ctx n = { s.ctx n with slot := none } := by
    rw [ht]
    exact s.ctx_setCtx_self n _
  have hother {m : Fin 16} (hm : m ≠ n) : t.ctx m = s.ctx m := by
    rw [ht]
    exact s.ctx_setCtx_of_ne hm _
  have hqueue : t.quotient.queue = rest := by rw [ht]
  have hunit (m : Fin 16) : t.unitHolds m = decide (n = m) := by
    rw [ht]
    exact Bool.and_true _
  have hidle (m : Fin 16) : s.unitHolds m = false := by rw [State.unitHolds, hw]
  refine ⟨?_, (pendingMatchesStates_iff _).mpr fun m => ?_⟩
  · unfold QueueMatchesSlots
    rw [hqueue]
    refine ⟨hnodup.2, fun m => ?_⟩
    by_cases hm : m = n
    · subst hm
      rw [hself]
      simpa using hnodup.1
    · rw [hother hm, ← hmem m, hq, List.mem_cons]
      exact ⟨.inr, fun h => h.resolve_left hm⟩
  · have hsame : t.gatePending m = s.gatePending m := by
      unfold State.gatePending
      rw [hunit, hidle]
      by_cases hm : m = n
      · subst hm
        rw [hself, hg]
        simp
      · rw [hother hm, decide_eq_false (Ne.symm hm)]
    have hstate : (t.ctx m).state = (s.ctx m).state := by
      by_cases hm : m = n
      · subst hm
        rw [hself]
      · rw [hother hm]
    rw [hsame, hstate]
    exact hpending m

/-- The completion empties the unit; where its work was not void the posting settles the context (R66, R141). -/
theorem gateLaws_completeWork {s : State} {w : Work} (hw : s.quotient.work = some w) (hs : QueueMatchesSlots s ∧ PendingMatchesStates s) :
    QueueMatchesSlots (s.completeWork w) ∧ PendingMatchesStates (s.completeWork w) := by
  obtain ⟨hqueue, hpending⟩ := hs
  let t : State := { s with quotient := { s.quotient with work := none } }
  have hunit (m : Fin 16) (h : m ≠ w.context ∨ w.void = true) : s.unitHolds m = false := by
    rw [State.unitHolds, hw]
    obtain h | h := h
    · simp [Ne.symm h]
    · simp [h]
  have hslot (m : Fin 16) : t.gatePending m = (s.ctx m).slot.isSome := Bool.or_false _
  have hsame (m : Fin 16) (h : m ≠ w.context ∨ w.void = true) : t.gatePending m = s.gatePending m := by
    rw [hslot, State.gatePending, hunit m h, Bool.or_false]
  have hagrees (m : Fin 16) (h : m ≠ w.context ∨ w.void = true) : PendingAgrees (t.ctx m).state (t.gatePending m) := by
    rw [hsame m h]
    exact hpending m
  have htq : QueueMatchesSlots t := queueMatchesSlots_of_eq hqueue rfl fun _ => rfl
  rw [State.completeWork_eq]
  split
  · next hv => exact ⟨htq, (pendingMatchesStates_iff _).mpr fun m => hagrees m (.inr hv)⟩
  · refine gateLaws_post _ _ _ _ htq (fun m hm => hagrees m (.inl hm)) fun hst => ?_
    rw [show State.gatePending _ w.context = (s.ctx w.context).slot.isSome from hslot _]
    exact (Bool.or_eq_false_iff.mp ((hpending w.context).1 hst)).1

/-! ### The effects -/

theorem gateLaws_free {s : State} (hctx : ∀ n, s.ctx n = Context.free) (hq : s.quotient = Quotient.reset) :
    QueueMatchesSlots s ∧ PendingMatchesStates s := by
  unfold QueueMatchesSlots
  rw [pendingMatchesStates_iff, hq]
  refine ⟨⟨List.nodup_nil, fun n => ?_⟩, fun n => ?_⟩
  · rw [hctx]
    exact ⟨nofun, nofun⟩
  · unfold State.gatePending State.unitHolds
    rw [hctx, hq]
    exact pendingAgrees_of_none nofun

theorem Effect.gateLaws {s t : State} (h : Effect s t) (hs : QueueMatchesSlots s ∧ PendingMatchesStates s) :
    QueueMatchesSlots t ∧ PendingMatchesStates t := by
  obtain h | ⟨hctx, hq⟩ := h.contexts_or
  case inr => exact gateLaws_of_eq hctx hq hs
  cases h with
  | move h => exact h.gateLaws hs
  | softReset _ => exact gateLaws_free s.ctx_softReset rfl
  | @define n _ _ _ hst _ =>
    refine gateLaws_of_eq rfl rfl (gateLaws_setCtx (n := n) hs rfl ?_)
    rw [(hs.2 n).1 hst.symm]
    exact pendingAgrees_of_none nofun
  | @modify n _ _ _ _ _ => exact gateLaws_setCtx hs rfl (hs.2 n)
  | @abortRun n => exact gateLaws_abortRun n hs
  | @retire n hst =>
    refine gateLaws_of_eq rfl rfl (gateLaws_setCtx (n := n) hs rfl ?_)
    rw [(hs.2 n).1 (.inl hst)]
    exact pendingAgrees_of_none nofun
  | @snapshot n => exact gateLaws_setCtx hs rfl (hs.2 n)
  | take hw hq hg => exact gateLaws_take hw hq hg hs rfl
  | complete hw => exact gateLaws_completeWork hw hs

/-- Settles O56: the two laws hold together at reset and no effect breaks them. -/
theorem queueAndSettlingKept : Obligations.QueueAndSettlingKept := fun _ _ hq hp h =>
  (Kept.mk (P := fun s => QueueMatchesSlots s ∧ PendingMatchesStates s) (fun _ _ h => h.gateLaws) (fun _ _ => gateLaws_of_eq rfl rfl)
    (fun _ _ => gateLaws_of_eq rfl rfl) (fun _ _ => gateLaws_of_eq rfl rfl) (fun _ => gateLaws_of_eq rfl rfl)
    (gateLaws_free State.ctx_reset rfl)).step ⟨hq, hp⟩ h

end Sys2Proof.Machine
end

section
/-! Listener lists, the calibration queue, INIT and service (O59): the four laws are kept together, since the lists tell which contexts a
configuration or a long calibration of a channel would touch. -/

namespace Sys2Proof.Machine

open Sys2Proof.Safety

/-! ### The listener lists -/

/-- Taking a context's entries out of a list laid out context by context. -/
theorem removeEntries_flatMap {f : Fin 16 → List (Fin 16 × Role)} (hf : ∀ m, ∀ e ∈ f m, e.1 = m) (n : Fin 16) (l : List (Fin 16)) :
    removeEntries n (l.flatMap f) = l.flatMap fun m => if m = n then [] else f m := by
  unfold removeEntries
  rw [List.filter_flatMap]
  congr 1
  funext m
  split
  · next h =>
    subst h
    exact List.filter_eq_nil_iff.mpr fun e he => by simpa using hf m e he
  · next h => exact List.filter_eq_self.mpr fun e he => by simpa [hf m e he] using h

/-- Putting a context's entries back into a list laid out in rising order of the contexts (R68, R69). -/
theorem insertEntries_flatMap {f : Fin 16 → List (Fin 16 × Role)} (hf : ∀ m, ∀ e ∈ f m, e.1 = m) {n : Fin 16}
    (new : List (Fin 16 × Role)) : ∀ l : List (Fin 16), l.Pairwise (· < ·) → n ∈ l →
      insertEntries n new (l.flatMap fun m => if m = n then [] else f m) = l.flatMap fun m => if m = n then new else f m
  | [], _, hn => nomatch hn
  | a :: l, hl, hn => by
    obtain ⟨ha, hl⟩ := List.pairwise_cons.mp hl
    obtain rfl | hn := List.mem_cons.mp hn
    · have hlater (m : Fin 16) (hm : m ∈ l) : m ≠ n := (ha m hm).ne'
      have hrest (x : List (Fin 16 × Role)) : (l.flatMap fun m => if m = n then x else f m) = l.flatMap f :=
        List.flatMap_congr fun m hm => if_neg (hlater m hm)
      have hnone : ∀ e ∈ l.flatMap f, ¬e.1 < n := by
        intro e he
        obtain ⟨m, hm, he⟩ := List.mem_flatMap.mp he
        rw [hf m e he]
        exact (ha m hm).le.not_gt
      rw [List.flatMap_cons, List.flatMap_cons, if_pos rfl, if_pos rfl, hrest, hrest, List.nil_append, insertEntries]
      cases h : l.flatMap f with
      | nil => simp
      | cons e r =>
        have he : ¬e.1 < n := hnone e (h ▸ List.mem_cons_self)
        rw [List.takeWhile_cons_of_neg (by simpa using he), List.dropWhile_cons_of_neg (by simpa using he), List.nil_append]
    · have hlt : a < n := ha n hn
      have hfa : ∀ e ∈ f a, decide (e.1 < n) = true := fun e he => by
        rw [hf a e he]
        exact decide_eq_true hlt
      have ih := insertEntries_flatMap hf new l hl hn
      rw [insertEntries] at ih ⊢
      rw [List.flatMap_cons, List.flatMap_cons, if_neg hlt.ne, if_neg hlt.ne, List.takeWhile_append_of_pos hfa,
        List.dropWhile_append_of_pos hfa, List.append_assoc, List.append_assoc, ← ih, List.append_assoc]

theorem pairwise_finRange_lt : (List.finRange 16).Pairwise (· < ·) := by decide

/-- The lists rebuilt for a context's new configuration are those of the configurations (R68, R69). -/
theorem listsMatch_relist {s : State} {n : Fin 16} {d : Context} (hs : ListsMatchConfigurations s) {t : State}
    (hctx : t.contexts = (s.setCtx n d).contexts) (hlist : t.listeners = (s.relist n d.config).listeners) : ListsMatchConfigurations t := by
  intro c
  have hold : s.listenersOf c = (List.finRange 16).flatMap fun m => entriesOn (s.ctx m).config m c := hs c
  have hnew : t.listenersOf c = (s.relist n d.config).listenersOf c := by rw [State.listenersOf, hlist, State.listenersOf]
  rw [hnew, State.relist_listenersOf, hold, removeEntries_flatMap fun m e => fst_of_mem_entriesOn e,
    insertEntries_flatMap (fun m e => fst_of_mem_entriesOn e) _ _ pairwise_finRange_lt (List.mem_finRange n)]
  refine List.flatMap_congr fun m _ => ?_
  rw [State.ctx_of_contexts hctx, State.ctx_setCtx]
  split
  · next h => rw [h]
  · rfl

theorem listsMatch_of_roles {s t : State} (hs : ListsMatchConfigurations s) (hlist : t.listeners = s.listeners)
    (hroles : ∀ m, (t.ctx m).config.roles = (s.ctx m).config.roles) : ListsMatchConfigurations t := by
  intro c
  have h : t.listenersOf c = s.listenersOf c := by rw [State.listenersOf, hlist, State.listenersOf]
  rw [h, hs c]
  refine List.flatMap_congr fun m _ => ?_
  rw [entriesOn, entriesOn, hroles m]

/-- A context bound to a channel has an entry on the channel's list (R68). -/
theorem channelHeld_of_role {s : State} (hs : ListsMatchConfigurations s) {n : Fin 16} (ha : (s.ctx n).state.active = true)
    {r : Role × Fin 8 × Sense} (hr : r ∈ (s.ctx n).config.roles) : s.channelHeld r.2.1 = true := by
  rw [channelHeld_iff, HeldByContext]
  refine ⟨(n, r.1), ?_, .inl ((active_iff s n).mpr ha)⟩
  rw [hs r.2.1]
  exact List.mem_flatMap.mpr ⟨n, List.mem_finRange n, List.mem_map.mpr ⟨r, List.mem_filter.mpr ⟨hr, decide_eq_true rfl⟩, rfl⟩⟩

/-! ### Service and the engine -/

/-- A long calibration of the channel waits or runs (R37). -/
def Engine.LongPending (e : Engine) (c : Fin 8) : Prop :=
  ⟨c, .long⟩ ∈ e.queue ∨ ∃ r, e.running = some r ∧ r.channel = c ∧ r.kind = .long

theorem Engine.runs_iff (e : Engine) (c : Fin 8) (k : CalKind) :
    e.runs c k = true ↔ ∃ r, e.running = some r ∧ r.channel = c ∧ r.kind = k := by
  unfold Engine.runs
  cases e.running <;> simp

theorem serves_phase_iff (e : Engine) (c : Fin 8) : (e.phase c).serves = true ↔ ¬e.LongPending c := by
  unfold Engine.LongPending
  rw [← Engine.queued_iff, ← Engine.runs_iff, Engine.phase]
  split_ifs with h1 h2 h3 h4 <;> simp_all [Phase.serves]

/-- A channel is in service exactly when it is enabled and no long calibration of it waits or runs (R19). -/
theorem inService_iff (s : State) (c : Fin 8) : s.inService c = true ↔ (s.channel c).enable = true ∧ ¬s.engine.LongPending c := by
  rw [State.inService, Bool.and_eq_true, serves_phase_iff]

/-! ### The four laws together -/

/-- The laws of lists, queue, INIT and service. -/
structure ServiceLaw (s : State) : Prop where
  lists : ListsMatchConfigurations s
  queue : OneEntryPerChannel s
  init : InitLawful s
  service : ActiveInService s

theorem anyActive_eq_false_iff (s : State) : s.anyActive = false ↔ ∀ n, (s.ctx n).state.active = false := by
  rw [← Bool.not_eq_true, anyActive_iff, not_exists]
  simp only [active_iff, Bool.not_eq_true]

/-- Contexts change, the channels, the engine and the search stand: a context that is active then has to have been allowed to run. -/
theorem ServiceLaw.contexts {s t : State} (hs : ServiceLaw s) (hchannels : t.channels = s.channels) (hengine : t.engine = s.engine)
    (hsearch : t.clock.search = s.clock.search) (hlists : ListsMatchConfigurations t)
    (hrun : ∀ m, (t.ctx m).state.active = true → s.mayRun m ∧ (t.ctx m).config.roles = (s.ctx m).config.roles) : ServiceLaw t := by
  refine ⟨hlists, ?_, ⟨?_, fun hinit => ?_⟩, fun m ha r hr => ?_⟩
  · unfold OneEntryPerChannel
    rw [hengine]
    exact hs.queue
  · rw [hsearch, hengine]
    exact hs.init.1
  · rw [hengine] at hinit
    refine (anyActive_eq_false_iff t).mpr fun m => Bool.eq_false_iff.mpr fun ha => ?_
    obtain ⟨hact | ⟨hclear, -⟩, -⟩ := hrun m ha
    · rw [(anyActive_eq_false_iff s).mp (hs.init.2 hinit) m] at hact
      cases hact
    · rw [hinit] at hclear
      cases hclear
  · obtain ⟨hact, hroles⟩ := hrun m ha
    have hsame : t.inService r.2.1 = s.inService r.2.1 := by
      rw [State.inService, State.inService, State.channel, hchannels, hengine, State.channel]
    rw [hroles] at hr
    rw [hsame]
    obtain hact | ⟨-, hserve⟩ := hact
    · exact hs.service m hact r hr
    · exact hserve r hr

/-- Channels and the engine change, the contexts and the lists stand: no channel of an active context may lose its service. -/
theorem ServiceLaw.engine {s t : State} (hs : ServiceLaw s) (hctx : t.contexts = s.contexts) (hlist : t.listeners = s.listeners)
    (hqueue : OneEntryPerChannel t) (hsearch : t.clock.search.isSome = true → t.engine.init = true ∧ t.engine.queue = [] ∧ t.engine.running = none)
    (hinit : t.engine.init = true → s.engine.init = true)
    (hserve : ∀ n, (s.ctx n).state.active = true → ∀ r ∈ (s.ctx n).config.roles, s.inService r.2.1 = true → t.inService r.2.1 = true) :
    ServiceLaw t := by
  refine ⟨listsMatch_of_roles hs.lists hlist fun m => by rw [State.ctx_of_contexts hctx], hqueue, ⟨hsearch, fun hi => ?_⟩, fun m ha r hr => ?_⟩
  · rw [State.anyActive, hctx]
    exact hs.init.2 (hinit hi)
  · rw [State.ctx_of_contexts hctx] at ha hr
    exact hserve m ha r hr (hs.service m ha r hr)

/-- The laws speak of contexts, lists, channels, engine and search alone. -/
theorem ServiceLaw.of_eq {s t : State} (hs : ServiceLaw s) (hctx : t.contexts = s.contexts) (hlist : t.listeners = s.listeners)
    (hchannels : t.channels = s.channels) (hengine : t.engine = s.engine) (hsearch : t.clock.search = s.clock.search) : ServiceLaw t :=
  hs.contexts hchannels hengine hsearch (listsMatch_of_roles hs.lists hlist fun m => by rw [State.ctx_of_contexts hctx]) fun m ha => by
    rw [State.ctx_of_contexts hctx] at ha ⊢
    exact ⟨.inl ha, rfl⟩

/-! ### The effects on contexts -/

/-- A move leaves every context's roles, and a context it leaves active was allowed to run. -/
theorem Move.mayRun_of_active {s t : State} (h : Move s t) (m : Fin 16) :
    (t.ctx m).config.roles = (s.ctx m).config.roles ∧ ((t.ctx m).state.active = true → s.mayRun m) := by
  have stands {u : State} (hu : u.ctx m = s.ctx m) :
      (u.ctx m).config.roles = (s.ctx m).config.roles ∧ ((u.ctx m).state.active = true → s.mayRun m) := by
    rw [hu]
    exact ⟨rfl, .inl⟩
  cases h with
  | @write n d h =>
    by_cases hm : m = n
    · subst hm
      rw [State.ctx_setCtx_self]
      refine ⟨roles_of_armTime h.config, fun ha => ?_⟩
      obtain hst | ⟨-, hrun⟩ := h.state
      · exact .inl (hst ▸ ha)
      · exact hrun
    · exact stands (s.ctx_setCtx_of_ne hm d)
  | raise _ => exact stands rfl
  | @handOn n g _ =>
    by_cases hm : m = n
    · subst hm
      rw [State.handOn_ctx]
      exact ⟨rfl, .inl⟩
    · exact stands ((ContextOnly.handOn s n g).others m hm)
  | @endRun n l =>
    by_cases hm : m = n
    · subst hm
      rw [endRun_ctx, State.ctx_setCtx_self]
      refine ⟨rfl, fun ha => ?_⟩
      dsimp only [endState] at ha
      split at ha <;> cases ha
    · exact stands (((ContextOnly.endRun _ n).others m hm).trans (s.ctx_setCtx_of_ne hm _))
  | @post n f seq flags p =>
    by_cases hm : m = n
    · subst hm
      rw [State.post_ctx]
      refine ⟨rfl, fun ha => .inl ?_⟩
      dsimp only at ha
      split at ha
      · cases ha
      · exact ha
    · exact stands ((ContextOnly.post s n f seq flags p).others m hm)
  | bus => exact stands rfl

theorem Move.serviceLaw {s t : State} (h : Move s t) (hs : ServiceLaw s) : ServiceLaw t :=
  hs.contexts h.channels h.engine (congrArg Clock.search h.clock)
    (listsMatch_of_roles hs.lists h.listeners fun m => (h.mayRun_of_active m).1)
    fun m ha => ⟨(h.mayRun_of_active m).2 ha, (h.mayRun_of_active m).1⟩

/-- A context becomes one that is not active, and the lists are rebuilt for it. -/
theorem ServiceLaw.relist {s t : State} (hs : ServiceLaw s) {n : Fin 16} {d : Context} (hd : d.state.active = false)
    (hctx : t.contexts = (s.setCtx n d).contexts) (hlist : t.listeners = (s.relist n d.config).listeners) (hchannels : t.channels = s.channels)
    (hengine : t.engine = s.engine) (hsearch : t.clock.search = s.clock.search) : ServiceLaw t := by
  refine hs.contexts hchannels hengine hsearch (listsMatch_relist hs.lists hctx hlist) fun m ha => ?_
  rw [State.ctx_of_contexts hctx, State.ctx_setCtx] at ha ⊢
  split at ha
  · rw [hd] at ha
    cases ha
  · next hm =>
    rw [if_neg hm]
    exact ⟨.inl ha, rfl⟩

/-- A context is replaced by one with its roles that is active only where it was. -/
theorem ServiceLaw.setCtx {s : State} (hs : ServiceLaw s) {n : Fin 16} {d : Context} (hroles : d.config.roles = (s.ctx n).config.roles)
    (hd : d.state.active = true → (s.ctx n).state.active = true) : ServiceLaw (s.setCtx n d) := by
  have hctx (m : Fin 16) : ((s.setCtx n d).ctx m).config.roles = (s.ctx m).config.roles ∧
      (((s.setCtx n d).ctx m).state.active = true → (s.ctx m).state.active = true) := by
    rw [State.ctx_setCtx]
    split
    · next h => exact h ▸ ⟨hroles, hd⟩
    · exact ⟨rfl, id⟩
  exact hs.contexts rfl rfl rfl (listsMatch_of_roles hs.lists rfl fun m => (hctx m).1) fun m ha => ⟨.inl ((hctx m).2 ha), (hctx m).1⟩

theorem modifiedConfig_roles (c : CtxConfig) (sel : BitVec 16) (v : ModifyBlock) (lim : Bool) (rm : RunMode) :
    (modifiedConfig c sel v lim rm).roles = c.roles := rfl

/-- What MODIFY CONTEXT takes is the configuration with its selected changes (R73). -/
theorem judgeModify_take {c : CtxConfig} {sel : BitVec 16} {v : ModifyBlock} {cfg : CtxConfig} {clamped : Bool}
    (h : judgeModify c sel v = .take cfg clamped) : ∃ lim rm, cfg = modifiedConfig c sel v lim rm := by
  unfold judgeModify at h
  split at h
  · cases h
  · split at h
    · cases h
    · split at h
      · dsimp only at h
        split at h
        · cases h
        · cases h
          exact ⟨_, _, rfl⟩
      · cases h

/-- Nothing defined, queued, running or active: what both resets leave. -/
theorem serviceLaw_free {s : State} (hctx : ∀ n, s.ctx n = Context.free) (hlist : s.listeners = Vector.replicate 8 [])
    (hqueue : s.engine.queue = []) (hrunning : s.engine.running = none) (hsearch : s.clock.search.isSome = true → s.engine.init = true) :
    ServiceLaw s := by
  have hnone (n : Fin 16) : (s.ctx n).state.active = false := by
    rw [hctx]
    rfl
  refine ⟨fun c => ?_, ?_, ⟨fun h => ⟨hsearch h, hqueue, hrunning⟩, fun _ => (anyActive_eq_false_iff s).mpr hnone⟩, fun n ha => ?_⟩
  · have hempty : entriesOfAll s c = [] := List.flatMap_eq_nil_iff.mpr fun n _ => by rw [hctx]; rfl
    rw [hempty, State.listenersOf, hlist]
    simp
  · unfold OneEntryPerChannel
    rw [hqueue]
    exact List.nodup_nil
  · rw [hnone n] at ha
    cases ha

theorem ContextEffect.serviceLaw {s t : State} (h : ContextEffect s t) (hs : ServiceLaw s) : ServiceLaw t := by
  cases h with
  | move h => exact h.serviceLaw hs
  | softReset hinit =>
    obtain ⟨-, hrunning, hqueue, hi⟩ := s.engine.softReset_kept
    refine serviceLaw_free s.ctx_softReset rfl hqueue hrunning fun hsearch => ?_
    rw [show s.softReset.engine.init = s.engine.init from hi]
    exact (hs.init.1 hsearch).1
  | define _ _ => exact hs.relist (d := { Context.free with config := _, state := .idle, slot := _ }) rfl rfl rfl rfl rfl rfl
  | @modify n sel v cfg _ hj =>
    obtain ⟨lim, rm, rfl⟩ := judgeModify_take hj
    exact hs.setCtx (modifiedConfig_roles ..) id
  | @abortRun n =>
    have hidle := hs.setCtx (n := n) (d := { s.ctx n with live := Live.zero, latePending := false, state := .idle }) rfl nofun
    have hempty := hidle.setCtx (n := n) (d := { State.ctx _ n with slot := none }) rfl id
    exact hempty.of_eq rfl rfl rfl rfl rfl
  | retire _ => exact hs.relist (d := { Context.free with slot := _ }) rfl rfl rfl rfl rfl rfl
  | @snapshot n => exact hs.setCtx rfl id
  | @take n rest g hw hq hg => exact (hs.setCtx (n := n) (d := { s.ctx n with slot := none }) rfl id).of_eq rfl rfl rfl rfl rfl
  | complete _ =>
    have hempty := hs.of_eq (t := { s with quotient := { s.quotient with work := none } }) rfl rfl rfl rfl rfl
    rw [State.completeWork_eq]
    split
    · exact hempty
    · exact Move.serviceLaw .post hempty

/-! ### The effects on the engine and the channels -/

theorem State.channel_setChannel (s : State) (c d : Fin 8) (x : Channel) :
    (s.setChannel c x).channel d = if d = c then x else s.channel d := by
  split
  · next h => rw [h, State.channel_setChannel_self]
  · next h => exact s.channel_setChannel_of_ne h x

theorem State.emptyHistories_enable (s : State) (c d : Fin 8) : ((s.emptyHistories c).channel d).enable = (s.channel d).enable := by
  rw [State.emptyHistories, State.channel_setChannel]
  split
  · next h => rw [h]
  · rfl

/-- While the search runs INIT is set and nothing runs, so a clear INIT or a running calibration tells that it has ended. -/
theorem ServiceLaw.search_of_init {s : State} (hs : ServiceLaw s) (h : s.engine.init = false) : ¬s.clock.search.isSome = true := fun hsearch => by
  rw [(hs.init.1 hsearch).1] at h
  cases h

theorem ServiceLaw.search_of_running {s : State} (hs : ServiceLaw s) {r : Running} (h : s.engine.running = some r) :
    ¬s.clock.search.isSome = true := fun hsearch => by
  rw [(hs.init.1 hsearch).2.2] at h
  cases h

theorem inService_of_long {s t : State} {c : Fin 8} (henable : (t.channel c).enable = (s.channel c).enable)
    (hlong : t.engine.LongPending c → s.engine.LongPending c) (h : s.inService c = true) : t.inService c = true := by
  rw [inService_iff] at h ⊢
  exact ⟨henable.trans h.1, fun hl => h.2 (hlong hl)⟩

/-- The engine gives up its calibration or some of its entries. -/
theorem ServiceLaw.shrink {s t : State} (hs : ServiceLaw s) (hctx : t.contexts = s.contexts) (hlist : t.listeners = s.listeners)
    (henable : ∀ c, (t.channel c).enable = (s.channel c).enable) (hclock : t.clock = s.clock) (hsearch : ¬s.clock.search.isSome = true)
    (hinit : t.engine.init = true → s.engine.init = true) (hqueue : t.engine.queue.Sublist s.engine.queue)
    (hrun : ∀ r, t.engine.running = some r → ∃ r', s.engine.running = some r' ∧ r'.channel = r.channel ∧ r'.kind = r.kind) :
    ServiceLaw t := by
  refine hs.engine hctx hlist (hs.queue.sublist (hqueue.map _)) (fun h => absurd (hclock ▸ h) hsearch) hinit fun n _ r _ =>
    inService_of_long (henable _) ?_
  rintro (hq | ⟨x, hx, hc, hk⟩)
  · exact .inl (hqueue.subset hq)
  · obtain ⟨y, hy, hyc, hyk⟩ := hrun x hx
    exact .inr ⟨y, hy, hyc.trans hc, hyk.trans hk⟩

/-- The queue is lengthened or an entry made LONG, on a channel that no context holds (R41, R42). -/
theorem ServiceLaw.enqueue {s : State} (hs : ServiceLaw s) (hinit : s.engine.init = false) {q : List CalEntry}
    (hone : (q.map CalEntry.channel).Nodup) (hlong : ∀ c, ⟨c, .long⟩ ∈ q → ⟨c, .long⟩ ∈ s.engine.queue ∨ s.channelHeld c = false) :
    ServiceLaw (s.setEngine { s.engine with queue := q }) := by
  refine hs.engine rfl rfl hone (fun h => absurd h (hs.search_of_init hinit)) id fun n ha r hr => ?_
  refine inService_of_long rfl ?_
  rintro (hq | hrun)
  · refine .inl ((hlong _ hq).resolve_right fun hheld => ?_)
    rw [channelHeld_of_role hs.lists ha hr] at hheld
    cases hheld
  · exact .inr hrun

/-- A channel with no entry gets one at the end. -/
theorem nodup_channels_append {q : List CalEntry} (hq : (q.map CalEntry.channel).Nodup) {x : CalEntry}
    (hx : ∀ k, ⟨x.channel, k⟩ ∉ q) : ((q ++ [x]).map CalEntry.channel).Nodup := by
  rw [List.map_append]
  refine hq.append (List.nodup_singleton _) ?_
  rw [List.map_singleton, List.disjoint_singleton, List.mem_map]
  rintro ⟨y, hy, hc⟩
  exact hx y.kind (hc ▸ hy)

theorem Engine.short_not_mem_queue {e : Engine} {c : Fin 8} (h : e.phase c = .none) (k : CalKind) : ⟨c, k⟩ ∉ e.queue := by
  rw [← Engine.queued_iff]
  intro hq
  unfold Engine.phase at h
  cases k <;> split_ifs at h

theorem ServiceLaw.requestShort {s : State} (hs : ServiceLaw s) (hinit : s.engine.init = false) (c : Fin 8) :
    ServiceLaw (s.requestShort c).1 := by
  unfold State.requestShort
  dsimp only
  split
  · exact hs
  · split
    · exact hs
    · next hphase =>
      refine hs.enqueue hinit (nodup_channels_append hs.queue (Engine.short_not_mem_queue (not_not.mp hphase))) fun d hd => ?_
      obtain hd | hd := List.mem_append.mp hd
      · exact .inl hd
      · cases List.mem_singleton.mp hd

theorem ServiceLaw.requestLong {s : State} (hs : ServiceLaw s) (hinit : s.engine.init = false) (c : Fin 8) :
    ServiceLaw (s.requestLong c).1 := by
  unfold State.requestLong
  dsimp only
  split
  · exact hs
  · next hheld =>
    have hfree : s.channelHeld c = false := Bool.not_eq_true _ ▸ hheld
    split
    · exact hs
    · next hphase =>
      obtain ⟨hwait, hrun⟩ := not_or.mp hphase
      split
      · refine hs.enqueue hinit ?_ fun d hd => ?_
        · have hsame : CalEntry.channel ∘ (fun x : CalEntry => if x.channel = c then { x with kind := .long } else x) = CalEntry.channel := by
            funext x
            dsimp only [Function.comp_apply]
            split <;> rfl
          rw [List.map_map, hsame]
          exact hs.queue
        · obtain ⟨x, hx, hxd⟩ := List.mem_map.mp hd
          split at hxd
          · next hc =>
            cases hxd
            exact .inr (hc ▸ hfree)
          · exact .inl (hxd ▸ hx)
      · next hshort =>
        have hnone : ∀ k, (⟨c, k⟩ : CalEntry) ∉ s.engine.queue
          | .long => Engine.long_not_mem_queue hwait hrun
          | .short => fun h => hshort ((s.engine.queued_iff c .short).mpr h)
        refine hs.enqueue hinit (nodup_channels_append hs.queue hnone) fun d hd => ?_
        obtain hd | hd := List.mem_append.mp hd
        · exact .inl hd
        · cases List.mem_singleton.mp hd
          exact .inr hfree

theorem ServiceLaw.abortChannel {s : State} (hs : ServiceLaw s) (hinit : s.engine.init = false) (c : Fin 8) :
    ServiceLaw (s.abortChannel c).1 := by
  obtain h | ⟨kind, hist, empties, h⟩ := s.abortChannel_eq c
  · rw [h]
    exact hs
  · rw [h]
    have hsearch := hs.search_of_init hinit
    have hqueue : (s.engine.queue.filter fun x => decide (x.channel ≠ c)).Sublist s.engine.queue := List.filter_sublist
    have hrun : ∀ r, (if s.engine.runs c .long || s.engine.runs c .short then none else s.engine.running) = some r →
        ∃ r', s.engine.running = some r' ∧ r'.channel = r.channel ∧ r'.kind = r.kind := by
      intro r hr
      split at hr
      · cases hr
      · exact ⟨r, hr, rfl, rfl⟩
    cases empties
    · exact hs.shrink rfl rfl (fun _ => rfl) rfl hsearch id hqueue hrun
    · exact hs.shrink rfl rfl (fun d => State.emptyHistories_enable _ c d) rfl hsearch id hqueue hrun

/-- The end of the search queues every channel, with no context active and nothing queued before (R10, R57). -/
theorem ServiceLaw.endSearch {s : State} (hs : ServiceLaw s) : ServiceLaw s.endSearch := by
  obtain ⟨-, h⟩ | ⟨hsearch, h⟩ := s.endSearch_eq
  · rw [h]
    exact hs
  · rw [h]
    obtain ⟨hinit, hqueue, -⟩ := hs.init.1 hsearch
    refine hs.engine rfl rfl ?_ nofun id fun n ha => ?_
    · have hall : s.engine.autoInit.queue = (List.finRange 8).map fun c => ⟨c, .long⟩ := by rw [Engine.autoInit, hqueue, List.nil_append]
      unfold OneEntryPerChannel
      rw [hall]
      decide
    · rw [(anyActive_eq_false_iff s).mp (hs.init.2 hinit) n] at ha
      cases ha

/-- The head of the queue becomes the running calibration (R39). -/
theorem ServiceLaw.start {s : State} (hs : ServiceLaw s) {x : CalEntry} {rest : List CalEntry} (hq : s.engine.queue = x :: rest)
    (h : Histogram) :
    ServiceLaw (s.setEngine { s.engine with queue := rest, histogram := h, running := some ⟨x.channel, x.kind, 0, 0⟩ }) := by
  have hone := hs.queue
  unfold OneEntryPerChannel at hone
  rw [hq, List.map_cons, List.nodup_cons] at hone
  refine hs.engine rfl rfl hone.2 (fun hsearch => ?_) id fun n _ r _ => inService_of_long rfl ?_
  · have := (hs.init.1 hsearch).2.1
    rw [hq] at this
    cases this
  · unfold Engine.LongPending
    rw [hq]
    rintro (hmem | ⟨y, hy, hc, hk⟩)
    · exact .inl (List.mem_cons_of_mem _ hmem)
    · cases hy
      exact .inl (List.mem_cons.mpr (.inl (by rw [← hc, ← hk])))

/-- A calibration ends: the engine is idle, and INIT may clear. -/
theorem ServiceLaw.finish {s t : State} (hs : ServiceLaw s) {r : Running} (hr : s.engine.running = some r) (hctx : t.contexts = s.contexts)
    (hlist : t.listeners = s.listeners) (henable : ∀ c, (t.channel c).enable = (s.channel c).enable) (hclock : t.clock = s.clock)
    (hinit : t.engine.init = true → s.engine.init = true) (hqueue : t.engine.queue = s.engine.queue) (hidle : t.engine.running = none) :
    ServiceLaw t :=
  hs.shrink hctx hlist henable hclock (hs.search_of_running hr) hinit (hqueue ▸ List.Sublist.refl _) fun x hx => by
    rw [hidle] at hx
    cases hx

theorem Effect.serviceLaw {s t : State} (h : Effect s t) (hs : ServiceLaw s) : ServiceLaw t := by
  cases h with
  | context h => exact h.serviceLaw hs
  | release | setSync | monitor _ | notices | cause _ | setPriority | threshold _ | clearEvents => exact hs.of_eq rfl rfl rfl rfl rfl
  | endSearch => exact hs.endSearch
  | @configure c en pol h hheld hphase =>
    refine hs.engine rfl rfl hs.queue hs.init.1 id fun n ha r hr hserve => ?_
    have hc : r.2.1 ≠ c := fun hc => by
      rw [← hc, channelHeld_of_role hs.lists ha hr] at hheld
      cases hheld
    exact inService_of_long (s := s) (by rw [State.channel_configure_of_ne hc]) id hserve
  | @edge c x hx =>
    refine hs.engine rfl rfl hs.queue hs.init.1 id fun n _ r _ => inService_of_long ?_ id
    rw [State.channel_setChannel]
    split
    · next hc => rw [hx, hc]
    · rfl
  | @request k c hinit =>
    cases k
    · exact hs.requestShort hinit c
    · exact hs.requestLong hinit c
  | @abortChannel c hinit => exact hs.abortChannel hinit c
  | driftLimit => exact hs.engine rfl rfl hs.queue hs.init.1 id fun _ _ _ _ => inService_of_long rfl id
  | start _ hq => exact hs.start hq _
  | @hit r raw hr =>
    refine hs.shrink rfl rfl (fun _ => rfl) rfl (hs.search_of_running hr) id (List.Sublist.refl _) fun x hx => ⟨r, hr, ?_⟩
    cases hx
    exact ⟨rfl, rfl⟩
  | @longComplete r hr =>
    rw [State.longComplete_eq]
    refine hs.finish hr rfl rfl (fun d => ?_) rfl (fun hi => ?_) (Engine.finish_queue ..) (Engine.finish_running ..)
    · exact State.emptyHistories_enable _ r.channel d
    · rw [State.raise_engine, State.emptyHistories_engine, State.setEngine_engine, Engine.longFinished, Engine.finish_init] at hi
      exact (Bool.and_eq_true_iff.mp hi).1
  | @shortComplete r hr =>
    rw [State.shortComplete_eq]
    have hraise (u : State) (p : Bool) (hu : ServiceLaw u) : ServiceLaw (u.raiseDrift p) := by
      unfold State.raiseDrift
      split
      · exact hu.of_eq rfl rfl rfl rfl rfl
      · exact hu
    refine hraise _ _ (hs.finish hr rfl rfl (fun _ => rfl) rfl (fun hi => ?_) (Engine.finish_queue ..) (Engine.finish_running ..))
    rw [State.raise_engine, State.setEngine_engine, Engine.shortFinished, Engine.finish_init] at hi
    exact hi
  | shortTimeout =>
    obtain h | ⟨r, hr, -, -, -, h⟩ := s.shortTimeout_eq <;> rw [h]
    · exact hs
    · exact hs.finish hr rfl rfl (fun _ => rfl) rfl id rfl rfl

/-! ### The laws at every step -/

/-- The counts of elapsed ticks leave the running calibration's channel and kind, and whether the search runs (R4). -/
theorem ServiceLaw.elapse {s : State} (hs : ServiceLaw s) : ServiceLaw s.elapse := by
  refine hs.engine rfl rfl hs.queue (fun h => ?_) id fun n _ r _ => inService_of_long rfl ?_
  · rw [State.elapse_search, Option.isSome_map] at h
    obtain ⟨hinit, hqueue, hrunning⟩ := hs.init.1 h
    exact ⟨hinit, hqueue, by simp [State.elapse, hrunning]⟩
  · rintro (hq | ⟨x, hx, hc, hk⟩)
    · exact .inl hq
    · obtain ⟨y, hy, rfl⟩ := Option.map_eq_some_iff.mp hx
      refine .inr ⟨y, hy, ?_⟩
      split at hc <;> split at hk <;> exact ⟨hc, hk⟩

theorem serviceLaw_reset : ServiceLaw State.reset := serviceLaw_free State.ctx_reset rfl rfl rfl fun _ => rfl

/-- Settles O59: the four laws hold together at reset, and no effect breaks them. -/
theorem serviceLawKept : Obligations.ServiceLawKept := fun _ t hl hq hi ha h =>
  have hkept : ServiceLaw t :=
    (Kept.mk (P := ServiceLaw) (fun _ _ h => h.serviceLaw) (fun _ _ hs => hs.of_eq rfl rfl rfl rfl rfl)
      (fun _ _ hs => hs.of_eq rfl rfl rfl rfl rfl) (fun _ _ hs => hs.of_eq rfl rfl rfl rfl rfl) (fun _ => ServiceLaw.elapse)
      (serviceLaw_reset.of_eq rfl rfl rfl rfl rfl)).step ⟨hl, hq, hi, ha⟩ h
  ⟨hkept.lists, hkept.queue, hkept.init, hkept.service⟩

end Sys2Proof.Machine
end

section
/-! The delivery of an item, as the acts of the roles A and B of the context's kind: outside ARMED the ARM role adds nothing, since no act
of the other roles arms a context. -/

namespace Sys2Proof.Machine

open Sys2Proof.Safety

/-! ### What does not arm a context -/

/-- A context that is not ARMED in `s` is not in `t`. -/
def StaysUnarmed (n : Fin 16) (s t : State) : Prop := (s.ctx n).state ≠ .armed → (t.ctx n).state ≠ .armed

namespace StaysUnarmed

variable {n : Fin 16} {s t u : State}

theorem refl (n : Fin 16) (s : State) : StaysUnarmed n s s := id

theorem trans (h : StaysUnarmed n s t) (k : StaysUnarmed n t u) : StaysUnarmed n s u := fun hs => k (h hs)

theorem ite {p : Prop} [Decidable p] (h : StaysUnarmed n s t) (k : StaysUnarmed n s u) : StaysUnarmed n s (if p then t else u) := by
  split
  · exact h
  · exact k

theorem of_state (h : (t.ctx n).state = (s.ctx n).state) : StaysUnarmed n s t := fun hs => h ▸ hs

/-- A context written in a state other than ARMED. -/
theorem setCtx {d : Context} (h : d.state ≠ .armed) : StaysUnarmed n s (s.setCtx n d) := fun _ => by rwa [State.ctx_setCtx_self]

theorem modLive (s : State) (n : Fin 16) (f : Live → Live) : StaysUnarmed n s (s.modLive n f) := of_state (by rw [State.ctx_modLive_self])

theorem endRun (s : State) (n : Fin 16) : StaysUnarmed n s (s.endRun n) := fun _ => by
  rw [endRun_ctx]
  dsimp only [endState]
  split <;> nofun

theorem handOnIf (s : State) (n : Fin 16) (g : RawGate) (p : Bool) : StaysUnarmed n s (if p then s.handOn n g else s) :=
  of_state (by rw [ctx_ite_handOn])

theorem frequencyStart (s : State) (n : Fin 16) (m : Message) : StaysUnarmed n s (s.frequencyStart n m) := setCtx nofun

theorem frequencyClose (s : State) (n : Fin 16) (m : Message) : StaysUnarmed n s (s.frequencyClose n m) := fun _ => by
  rw [State.frequencyClose_ctx]
  dsimp only
  split
  · dsimp only
    split <;> nofun
  · nofun

theorem tallyItem (s : State) (n : Fin 16) : StaysUnarmed n s (s.tallyItem n) := ite (modLive s n _) (refl n s)

theorem frequencyMessage (s : State) (n : Fin 16) (m : Message) : StaysUnarmed n s (s.frequencyMessage n m) := by
  unfold State.frequencyMessage
  have htally := tallyItem s n
  have hopen := ite (p := laterTick (tickOfStamp m.stamp) (s.ctx n).live.expiryTick = true)
    (htally.trans (frequencyClose (s.tallyItem n) n m)) htally
  refine ite ?_ (refl n s)
  split
  · exact ite (frequencyStart s n m) (refl n s)
  · exact hopen
  · exact hopen
  all_goals exact refl n s

theorem intervalWait (s : State) (n : Fin 16) (f : Stamp) (e : Tick) : StaysUnarmed n s (s.intervalWait n f e) := setCtx nofun

theorem intervalRecordStart (s : State) (n : Fin 16) (m : HeldStop) : StaysUnarmed n s (s.intervalRecordStart n m) := setCtx nofun

theorem batchClose (s : State) (n : Fin 16) (m : HeldStop) : StaysUnarmed n s (s.batchClose n m) := by
  have hcount : StaysUnarmed n s (s.modCtx n fun c => { c.countClose with live := { c.live with flags := Flags.clear, batchOpen := false } }) :=
    of_state (by rw [State.ctx_modCtx_self]; rfl)
  have hhand := hcount.trans (handOnIf _ n (s.ctx n).intervalGate (s.ctx n).patternPasses)
  unfold State.batchClose
  dsimp only
  split
  · exact hhand.trans (endRun _ n)
  · exact ite (hhand.trans (intervalRecordStart _ n m)) (hhand.trans (intervalWait _ n _ _))

theorem intervalStop (s : State) (n : Fin 16) (m : HeldStop) : StaysUnarmed n s (s.intervalStop n m) := by
  unfold State.intervalStop
  extract_lets t c
  have hadd : StaysUnarmed n s t := of_state (by rw [State.ctx_modCtx_self])
  exact ite (hadd.trans (batchClose t n m)) (ite (hadd.trans (intervalRecordStart t n m)) (hadd.trans (intervalWait t n _ _)))

theorem intervalDrop (s : State) (n : Fin 16) (k : Tick) : StaysUnarmed n s (s.intervalDrop n k) :=
  (modLive s n _).trans (intervalWait _ n _ _)

theorem intervalMessageA (s : State) (n : Fin 16) (m : Message) : StaysUnarmed n s (s.intervalMessageA n m) := by
  refine ite ?_ (refl n s)
  unfold State.intervalStart
  extract_lets held t c
  have hrecord : StaysUnarmed n s t := intervalRecordStart s n _
  refine ite hrecord ?_
  split
  · exact hrecord.trans (intervalDrop t n _)
  · split
    · exact hrecord.trans (intervalStop t n _)
    · exact hrecord

theorem intervalMessageB (s : State) (n : Fin 16) (m : Message) : StaysUnarmed n s (s.intervalMessageB n m) := by
  unfold State.intervalMessageB
  refine ite ?_ (refl n s)
  split
  · exact ite (modLive s n _) (refl n s)
  · exact ite (intervalStop s n _) (refl n s)
  all_goals exact refl n s

theorem totalOpen (s : State) (n : Fin 16) (b : Boundary) (r k : Bool) : StaysUnarmed n s (s.totalOpen n b r k) := setCtx nofun

theorem totalContinue (s : State) (n : Fin 16) (b : Boundary) : StaysUnarmed n s (s.totalContinue n b) := by
  unfold State.totalContinue
  dsimp only
  split
  · exact endRun s n
  · split
    · exact totalOpen s n b _ _
    · exact totalOpen s n b _ _
    · exact setCtx nofun

theorem totalClose (h : (s.ctx n).state = .gating) (b : Boundary) (f : Flags) : StaysUnarmed n s (s.totalClose n b f) := by
  have hcount : StaysUnarmed n s (s.totalCounted n b f) := of_state (by rw [State.totalCounted_ctx (by rw [h]; nofun)]; rfl)
  exact hcount.trans (totalContinue _ n b)

theorem windowItem (s : State) (n : Fin 16) (e : EdgeSense) (b : Boundary) (l r k : Bool) : StaysUnarmed n s (s.windowItem n e b l r k) := by
  unfold State.windowItem
  dsimp only
  split
  case h_1 => exact ite (totalOpen s n b r k) (refl n s)
  case h_2 h => exact ite (totalClose h b _) (refl n s)
  all_goals exact refl n s

/-- The roles A and B do not arm a context. -/
theorem takeMessage (s : State) (n : Fin 16) (m : Message) {r : Role} (hr : r ≠ .arm) : StaysUnarmed n s (s.takeMessage n m r) := by
  unfold State.takeMessage
  split
  case h_1 => exact frequencyMessage s n m
  case h_2 => exact intervalMessageA s n m
  case h_6 => exact intervalMessageB s n m
  case h_7 => exact ite (windowItem s n _ _ _ _ _) (refl n s)
  case h_9 => exact absurd rfl hr
  all_goals exact refl n s

end StaysUnarmed

/-! ### The roles that act -/

/-- The roles that a configuration of kind other than NONE holds on a channel. -/
theorem map_entriesOn_of_kind {cfg : CtxConfig} (hk : cfg.kind ≠ .none) (n : Fin 16) (c : Fin 8) :
    (entriesOn cfg n c).map (fun e => e.2) =
      (if cfg.channelA = c then [Role.a] else []) ++
      (if holdsChannelB cfg.kind cfg.gateMode = true ∧ cfg.channelB = c then [Role.b] else []) ++
      (if cfg.armMode = .onEdge ∧ cfg.armChannel = c then [Role.arm] else []) := by
  rw [map_entriesOn, if_neg hk]

/-- A message is taken under roles A and B, in that order (R28, R69). -/
def State.takeAB (s : State) (n : Fin 16) (c : Fin 8) (m : Message) : State :=
  let cfg := (s.ctx n).config
  let t := if cfg.channelA = c then s.takeMessage n m .a else s
  if holdsChannelB cfg.kind cfg.gateMode = true ∧ cfg.channelB = c then t.takeMessage n m .b else t

/-- A notice is taken under roles A and B, in that order (R28, R69). -/
def State.noticeAB (s : State) (n : Fin 16) (c : Fin 8) (v : Notice) : State :=
  let cfg := (s.ctx n).config
  let t := if cfg.channelA = c then s.takeNotice n v .a else s
  if holdsChannelB cfg.kind cfg.gateMode = true ∧ cfg.channelB = c then t.takeNotice n v .b else t

theorem foldl_ite_singleton {α β : Type} (f : β → α → β) (p : Prop) [Decidable p] (a : α) (b : β) :
    (if p then [a] else []).foldl f b = if p then f b a else b := by split <;> rfl

/-- What a message does to a context that is not ARMED. -/
theorem State.deliver_message_ab {s : State} {n : Fin 16} {c : Fin 8} {i : BusItem} {x : StampInfo} (h : Arriving s n c i)
    (hc : i.channel = c) (hx : i.stamped = some x) (hl : ListedOn s n c) (ha : AfterArm s n i) (hk : (s.ctx n).config.kind ≠ .none)
    (hst : (s.ctx n).state ≠ .armed) :
    s.deliver n c true = (handed s n c).takeAB n c (i.message x) := by
  simp only [State.deliver_message h hc hx hl ha, map_entriesOn_of_kind hk, List.foldl_append, foldl_ite_singleton]
  have hA : StaysUnarmed n (handed s n c) (if (s.ctx n).config.channelA = c then (handed s n c).takeMessage n (i.message x) .a else handed s n c) :=
    .ite (.takeMessage _ n _ nofun) (.refl n _)
  have hB := StaysUnarmed.ite (p := holdsChannelB (s.ctx n).config.kind (s.ctx n).config.gateMode = true ∧ (s.ctx n).config.channelB = c)
    (hA.trans (.takeMessage _ n (i.message x) (r := .b) nofun)) hA
  rw [State.takeMessage_arm_of_not_armed (hB hst), ite_self]
  rfl

/-- What a notice does to a context: the ARM role lets notices pass (R79). -/
theorem State.deliver_notice_ab {s : State} {n : Fin 16} {c : Fin 8} {i : BusItem} (h : Arriving s n c i) (hc : i.channel = c)
    (hx : i.stamped = none) (hl : ListedOn s n c) (ha : AfterArm s n i) (hf : NotBeforeFulfilment s n i)
    (hk : (s.ctx n).config.kind ≠ .none) : s.deliver n c false = (handed s n c).noticeAB n c i.notice := by
  simp only [State.deliver_notice h hc hx hl ha hf, map_entriesOn_of_kind hk, List.foldl_append, foldl_ite_singleton]
  exact ite_self _

/-- A notice that R80 sets aside passes. -/
theorem State.deliver_notice_before {s : State} {n : Fin 16} {c : Fin 8} {i : BusItem} (h : Arriving s n c i) (hx : i.stamped = none)
    (hf : ¬NotBeforeFulfilment s n i) : s.deliver n c false = handed s n c := by
  have haside : ((handed s n c).ctx n).live.setsAside i = true := by
    unfold Live.setsAside
    rw [hx, handed_ctx, decide_eq_true (Nat.lt_of_not_le hf)]
    exact Bool.or_true _
  unfold State.deliver
  rw [h.1]
  dsimp only
  rw [if_pos ⟨by rw [hx]; rfl, h.2⟩]
  exact State.applyItem_of_setsAside haside

end Sys2Proof.Machine
end

section
/-! FREQUENCY contexts (spec/05_frequency_measurement.md): the start edge (O43), the closing edge (O44), and the span of a closed gate
(O50). -/

namespace Sys2Proof.Machine

open Sys2Proof.Safety

/-! ### What a FREQUENCY context does with a message -/

section
variable {s : State} {n : Fin 16}

theorem exec_stampedEdgeMessage (s : State) (n : Fin 16) (c : Fin 8) : exec (.stampedEdgeMessage n c) s = .next (s.deliver n c true) := rfl

theorem exec_unstampedEdgeNotice (s : State) (n : Fin 16) (c : Fin 8) : exec (.unstampedEdgeNotice n c) s = .next (s.deliver n c false) :=
  rfl

/-- A FREQUENCY context takes items under role A alone. -/
theorem State.takeAB_frequency (hk : (s.ctx n).config.kind = .frequency) (c : Fin 8) (m : Message) :
    s.takeAB n c m = if (s.ctx n).config.channelA = c then s.frequencyMessage n m else s := by
  simp [State.takeAB, State.takeMessage, holdsChannelB, hk]

theorem State.noticeAB_frequency (hk : (s.ctx n).config.kind = .frequency) (c : Fin 8) (v : Notice) :
    s.noticeAB n c v = if (s.ctx n).config.channelA = c then s.frequencyNotice n v else s := by
  simp [State.noticeAB, State.takeNotice, holdsChannelB, hk]

theorem State.frequencyMessage_of_not_takes {m : Message} (h : (s.ctx n).config.senseA.takes m.sense = false) : s.frequencyMessage n m = s := by
  simp [State.frequencyMessage, h]

theorem State.frequencyMessage_of_starting {m : Message} (h : (s.ctx n).config.senseA.takes m.sense = true)
    (hst : (s.ctx n).state = .starting) :
    s.frequencyMessage n m = if (s.ctx n).live.pastFulfilment m.stamp then s.frequencyStart n m else s := by
  simp only [State.frequencyMessage, h, hst, if_true]

theorem State.frequencyMessage_of_open {m : Message} (h : (s.ctx n).config.senseA.takes m.sense = true) (hst : (s.ctx n).gateOpen) :
    s.frequencyMessage n m =
      if laterTick (tickOfStamp m.stamp) (s.ctx n).live.expiryTick then (s.tallyItem n).frequencyClose n m else s.tallyItem n := by
  obtain hst | hst := hst <;> simp only [State.frequencyMessage, h, hst, if_true]

theorem State.frequencyNotice_of_open {v : Notice} (h : (s.ctx n).config.senseA.takes v.sense = true) (hst : (s.ctx n).gateOpen) :
    s.frequencyNotice n v =
      if laterTick v.tick (s.ctx n).live.expiryTick then
        (s.tallyItem n).modLive n fun l => { l with flags := { l.flags with blind := true } }
      else s.tallyItem n := by
  obtain hst | hst := hst <;> simp only [State.frequencyNotice, h, hst, if_true]

/-- The tally after an item of channel A (R88). -/
def Context.tallied (c : Context) : EdgeCount := if c.config.senseA = .any then c.live.edgeTally + 1 else c.live.edgeTally

theorem State.tallyItem_eq (s : State) (n : Fin 16) :
    s.tallyItem n = s.setCtx n { s.ctx n with live := { (s.ctx n).live with edgeTally := (s.ctx n).tallied } } := by
  unfold State.tallyItem Context.tallied
  split
  · rfl
  · exact (s.setCtx_ctx n).symm

theorem pastFulfilment_iff (l : Live) (x : Stamp) :
    l.pastFulfilment x = true ↔ l.testFulfilment = false ∨ laterStamp x l.fulfilStamp = true := by
  simp [Live.pastFulfilment]

theorem pastFulfilment_eq_false_iff (l : Live) (x : Stamp) :
    l.pastFulfilment x = false ↔ l.testFulfilment = true ∧ laterStamp x l.fulfilStamp = false := by
  simp [Live.pastFulfilment]

end

/-- A message on role A of a FREQUENCY context that is not ARMED. -/
theorem exec_message_frequency {s : State} {n : Fin 16} {c : Fin 8} {i : BusItem} {x : StampInfo} (h : Arriving s n c i)
    (hc : i.channel = c) (hx : i.stamped = some x) (hl : ListedOn s n c) (ha : AfterArm s n i) (hk : (s.ctx n).config.kind = .frequency)
    (hst : (s.ctx n).state ≠ .armed) (hA : (s.ctx n).config.channelA = c) :
    exec (.stampedEdgeMessage n c) s = .next ((handed s n c).frequencyMessage n (i.message x)) := by
  rw [exec_stampedEdgeMessage, State.deliver_message_ab h hc hx hl ha (by rw [hk]; nofun) hst,
    State.takeAB_frequency (s := handed s n c) hk, handed_ctx, if_pos hA]

/-- Settles O43: a message on role A in STARTING opens the gate where it is past the fulfilment. -/
theorem frequencyGateOpens : Obligations.FrequencyGateOpens := by
  intro s n c i x harr hc hx hl ha hk hst hA later
  rw [exec_message_frequency harr hc hx hl ha hk (by rw [hst]; nofun) hA]
  have hstarting (htakes : (s.ctx n).config.senseA.takes i.sense = true) :=
    State.frequencyMessage_of_starting (s := handed s n c) (n := n) (m := i.message x) htakes hst
  refine ⟨fun htakes hpast => ?_, fun hpass => ?_⟩
  · rw [hstarting htakes, handed_ctx, if_pos ((pastFulfilment_iff _ (i.message x).stamp).mpr hpast)]
    unfold State.frequencyStart
    rw [show tickOfStamp (i.message x).stamp = i.tick from tickOfStamp_stampOf _ _]
    rfl
  · cases htakes : (s.ctx n).config.senseA.takes i.sense
    · rw [State.frequencyMessage_of_not_takes (s := handed s n c) (m := i.message x) htakes]
    · have hearly : (s.ctx n).live.pastFulfilment (i.message x).stamp = false :=
        (pastFulfilment_eq_false_iff _ _).mpr (hpass.resolve_left (by rw [htakes]; nofun))
      rw [hstarting htakes, handed_ctx, hearly]
      rfl

/-! ### The close of a gate -/

/-- Where a run ends after a close: SETTLING where the gate was passed, otherwise as what is pending has it (R66). -/
theorem endState_of_close {c : Context} {s : State} {n : Fin 16} {x : CtxState}
    (h : x = if c.patternPasses || s.gatePending n then .settling else .idle) :
    (Passes c → x = .settling) ∧ (¬Passes c → x = endState s n) := by
  subst h
  rw [passes_iff]
  refine ⟨fun hp => by rw [hp]; rfl, fun hp => ?_⟩
  rw [Bool.eq_false_iff.mpr hp, Bool.false_or]
  rfl

/-- What the close of a FREQUENCY gate leaves of its context, and how the run goes on (R100, R104). -/
theorem State.frequencyClose_run (s : State) (n : Fin 16) (m : Message) :
    let c := s.ctx n
    let d := (s.frequencyClose n m).ctx n
    (d.record = c.record ∧ d.total = c.total ∧ d.latePending = c.latePending ∧ d.seq = c.seq + 1 ∧ d.position = c.nextPosition ∧
      d.live.deadline = none ∧ (c.patternPasses = false → d.slot = c.slot)) ∧
    (c.config.runMode = .single →
      d.state = (if c.patternPasses || s.gatePending n then .settling else .idle) ∧ d.live.flags = Flags.clear ∧
        d.live.startStamp = c.live.startStamp) ∧
    (c.config.runMode = .continuous →
      d.state = .gating ∧ d.live.startStamp = m.stamp ∧ d.live.startCount = m.count ∧ d.live.startGeneration = m.generation ∧
        d.live.expiryTick = tickOfStamp m.stamp + gateTicks c.config.gateTime ∧ d.live.flags = { Flags.clear with ref := m.unlocked } ∧
        d.live.edgeTally = 0) := by
  dsimp only
  rw [State.frequencyClose_ctx]
  dsimp only
  cases hr : (s.ctx n).config.runMode
  · exact ⟨⟨rfl, rfl, rfl, rfl, rfl, rfl, fun hp => by simp [hp]⟩, fun _ => ⟨rfl, rfl, rfl⟩, nofun⟩
  · exact ⟨⟨rfl, rfl, rfl, rfl, rfl, rfl, fun hp => by simp [hp]⟩, nofun, fun _ => ⟨rfl, rfl, rfl, rfl, rfl, rfl, rfl⟩⟩

/-- A cause raised and a context replaced, in either order. -/
theorem State.setCtx_raise (s : State) (id : Fin 20) (k : Fin 4) (n : Fin 16) (d : Context) :
    (s.raise id k).setCtx n d = (s.setCtx n d).raise id k := rfl

/-- A hand-on does not look at the state of its context. -/
theorem State.handOn_withState (s : State) (n : Fin 16) (g : RawGate) (x : CtxState) :
    (s.setCtx n { s.ctx n with state := x }).handOn n g = (s.handOn n g).setCtx n { (s.handOn n g).ctx n with state := x } := by
  have hslot : ((s.setCtx n { s.ctx n with state := x }).ctx n).slot = (s.ctx n).slot := by rw [State.ctx_setCtx_self]
  rw [State.handOn_ctx]
  by_cases h : (s.ctx n).slot = none
  · rw [State.handOn_of_empty (hslot.trans h), State.handOn_of_empty h, State.ctx_setCtx_self, State.setCtx_setCtx]
    simp [State.setCtx, h]
  · rw [State.handOn_of_queued (by rwa [hslot]), State.handOn_of_queued h, State.ctx_setCtx_self, State.setCtx_setCtx,
      State.setCtx_raise, State.setCtx_setCtx, Option.isSome_iff_ne_none.mpr h]

theorem State.gatePending_setCtx {s : State} {n : Fin 16} {d : Context} (h : d.slot = (s.ctx n).slot) :
    (s.setCtx n d).gatePending n = s.gatePending n :=
  State.gatePending_of_eq (by rw [State.ctx_setCtx_self]; exact h) rfl

theorem State.endRun_withState (s : State) (n : Fin 16) (x : CtxState) : (s.setCtx n { s.ctx n with state := x }).endRun n = s.endRun n := by
  unfold State.endRun State.modCtx
  have hpending : (s.setCtx n { s.ctx n with state := x }).gatePending n = s.gatePending n := State.gatePending_setCtx rfl
  rw [State.setCtx_setCtx, State.ctx_setCtx_self, hpending]

/-- The close of a gate looks neither at the state of the context nor at its deadline: it does the same before and after the reaching of the
expiry tick (R94). -/
theorem State.frequencyClose_withState (s : State) (n : Fin 16) (m : Message) (x : CtxState) (k : Option Tick) :
    (s.setCtx n { s.ctx n with state := x, live := { (s.ctx n).live with deadline := k } }).frequencyClose n m = s.frequencyClose n m := by
  let counted : Context := { (s.ctx n).countClose with live := { (s.ctx n).live with flags := Flags.clear, deadline := none } }
  let u := if (s.ctx n).patternPasses then (s.setCtx n counted).handOn n ((s.ctx n).frequencyGate m) else s.setCtx n counted
  have hcounted : ({ counted with state := x } : Context) = { (s.setCtx n counted).ctx n with state := x } := by rw [State.ctx_setCtx_self]
  have hstate : (if (s.ctx n).patternPasses then (s.setCtx n { counted with state := x }).handOn n ((s.ctx n).frequencyGate m)
      else s.setCtx n { counted with state := x }) = u.setCtx n { u.ctx n with state := x } := by
    have hfrom : s.setCtx n { counted with state := x } = (s.setCtx n counted).setCtx n { (s.setCtx n counted).ctx n with state := x } := by
      rw [State.setCtx_setCtx, State.ctx_setCtx_self]
    rw [hfrom, State.handOn_withState]
    cases hp : (s.ctx n).patternPasses <;> simp [u, hp]
  have hleft : ((s.setCtx n { s.ctx n with state := x, live := { (s.ctx n).live with deadline := k } }).frequencyClose n m) =
      match (s.ctx n).config.runMode with
      | .single => (u.setCtx n { u.ctx n with state := x }).endRun n
      | .continuous => (u.setCtx n { u.ctx n with state := x }).frequencyStart n m := by
    rw [← hstate]
    unfold State.frequencyClose State.modCtx
    rw [State.ctx_setCtx_self, State.setCtx_setCtx]
    rfl
  rw [hleft, State.endRun_withState]
  have hstart : (u.setCtx n { u.ctx n with state := x }).frequencyStart n m = u.frequencyStart n m := by
    unfold State.frequencyStart State.modCtx
    rw [State.setCtx_setCtx, State.ctx_setCtx_self]
  rw [hstart]
  rfl

/-! ### The messages to an open gate -/

section
variable {s : State} {n : Fin 16} {ch : Fin 8} {i : BusItem} {x : StampInfo}

/-- The context that a close acts on: its tally counts the closing message (R88, R93). -/
theorem tallyItem_ctx (s : State) (n : Fin 16) :
    (s.tallyItem n).ctx n = { s.ctx n with live := { (s.ctx n).live with edgeTally := (s.ctx n).tallied } } := by
  rw [State.tallyItem_eq, State.ctx_setCtx_self]

/-- The gate that a closing message leaves, as the statements spell it (R89, R95, R98, R99). -/
theorem frequencyGate_tallied (c : Context) (m : Message) :
    Context.frequencyGate { c with live := { c.live with edgeTally := c.tallied } } m =
      ⟨.frequency (if c.config.senseA = .any then c.live.edgeTally + 1 else m.count - c.live.startCount) (m.stamp - c.live.startStamp)
          c.live.startStamp,
        { c.live.flags with ref := c.live.flags.ref || m.unlocked, calSwap := decide (m.generation ≠ c.live.startGeneration) },
        c.seq + 1⟩ := by
  unfold Context.frequencyGate Context.gateEdges Context.tallied Context.closingFlags
  split <;> rfl

/-- A stamped edge of sense A later than the expiry tick closes the gate. -/
theorem exec_message_closes (h : Arriving s n ch i) (hc : i.channel = ch) (hx : i.stamped = some x) (hl : ListedOn s n ch)
    (ha : AfterArm s n i) (hk : (s.ctx n).config.kind = .frequency) (hopen : (s.ctx n).gateOpen) (hA : (s.ctx n).config.channelA = ch)
    (htakes : (s.ctx n).config.senseA.takes i.sense = true) (hlater : laterTick i.tick (s.ctx n).live.expiryTick = true) :
    exec (.stampedEdgeMessage n ch) s = .next (((handed s n ch).tallyItem n).frequencyClose n (i.message x)) := by
  have hst : (s.ctx n).state ≠ .armed := by
    obtain hst | hst := hopen <;> rw [hst] <;> nofun
  rw [exec_message_frequency h hc hx hl ha hk hst hA,
    State.frequencyMessage_of_open (s := handed s n ch) (m := i.message x) htakes hopen,
    show tickOfStamp (i.message x).stamp = i.tick from tickOfStamp_stampOf _ _, handed_ctx, hlater]
  rfl

/-- Only an INTERVAL context holds an item back for its expiry (R125). -/
theorem timesOutFirst_of_kind {c : Context} (h : c.config.kind ≠ .interval) (now : Tick) : c.timesOutFirst now = false := by
  simp [Context.timesOutFirst, h]

/-- An item that may arrive may arrive after a rewriting of the context, which is not of kind INTERVAL. -/
theorem arriving_setCtx (h : Arriving s n ch i) {d : Context} (hk : (s.ctx n).config.kind ≠ .interval)
    (hd : d.config.kind ≠ .interval) : Arriving (s.setCtx n d) n ch i := by
  refine ⟨h.1, ?_⟩
  have hmay := h.2
  unfold State.mayArrive at hmay ⊢
  rw [timesOutFirst_of_kind hk] at hmay
  rw [State.ctx_setCtx_self, timesOutFirst_of_kind hd]
  rw [Bool.and_false, Bool.false_and] at hmay ⊢
  exact hmay

/-- The closing message does the same after the reaching of the expiry tick as before it (R94). -/
theorem exec_message_after_expiry (h : Arriving s n ch i) (hc : i.channel = ch) (hx : i.stamped = some x) (hl : ListedOn s n ch)
    (ha : AfterArm s n i) (hk : (s.ctx n).config.kind = .frequency) (hopen : (s.ctx n).gateOpen) (hA : (s.ctx n).config.channelA = ch)
    (htakes : (s.ctx n).config.senseA.takes i.sense = true) (hlater : laterTick i.tick (s.ctx n).live.expiryTick = true) :
    exec (.stampedEdgeMessage n ch) (s.gateExpiry n) = exec (.stampedEdgeMessage n ch) s := by
  unfold State.gateExpiry
  dsimp only
  split
  · set d : Context := { s.ctx n with
      state := .closing, live := { (s.ctx n).live with deadline := some (s.deadlineFrom n (s.ctx n).live.expiryTick) } } with hd
    have hself : (s.setCtx n d).ctx n = d := s.ctx_setCtx_self n d
    have hint : (s.ctx n).config.kind ≠ .interval := by rw [hk]; nofun
    rw [exec_message_closes h hc hx hl ha hk hopen hA htakes hlater,
      exec_message_closes (s := s.setCtx n d) (arriving_setCtx h hint hint) hc hx (by unfold ListedOn; rw [hself]; exact hl)
        (by unfold AfterArm; rw [hself]; exact ha) (by rw [hself]; exact hk) (.inr (by rw [hself])) (by rw [hself]; exact hA)
        (by rw [hself]; exact htakes) (by rw [hself]; exact hlater)]
    have htally : (handed (s.setCtx n d) n ch).tallyItem n =
        ((handed s n ch).tallyItem n).setCtx n { ((handed s n ch).tallyItem n).ctx n with
          state := .closing
          live := { (((handed s n ch).tallyItem n).ctx n).live with
            deadline := some (s.deadlineFrom n (s.ctx n).live.expiryTick) } } := by
      rw [tallyItem_ctx, State.tallyItem_eq, State.tallyItem_eq, State.setCtx_setCtx, handed_ctx, handed_ctx, hself]
      exact State.setCtx_setCtx (handed s n ch) n d _
    rw [htally, State.frequencyClose_withState]
  · rfl

end

/-- Settles O44: the message is let pass, tallied, or closes the gate; the closed gate is the model's `frequencyGate` of the tallied
context. -/
theorem frequencyGateCloses : Obligations.FrequencyGateCloses := by
  intro s n ch i x harr hc hx hl ha hk hopen hA c u stop e gate
  have hst : (s.ctx n).state ≠ .armed := by
    obtain hst | hst := hopen <;> rw [hst] <;> nofun
  refine ⟨fun htakes => ?_, fun htakes hlater => ?_, fun htakes hlater => ⟨fun v hv => ?_, ?_⟩⟩
  · rw [exec_message_frequency harr hc hx hl ha hk hst hA,
      State.frequencyMessage_of_not_takes (s := handed s n ch) (m := i.message x) htakes]
  · rw [exec_message_frequency harr hc hx hl ha hk hst hA,
      State.frequencyMessage_of_open (s := handed s n ch) (m := i.message x) htakes hopen,
      show tickOfStamp (i.message x).stamp = i.tick from tickOfStamp_stampOf _ _, handed_ctx, hlater, State.tallyItem_eq]
    rfl
  · cases hv
    exact exec_message_after_expiry harr hc hx hl ha hk hopen hA htakes hlater
  · have htallied := tallyItem_ctx u n
    have hone : ContextOnly n u (u.tallyItem n) := ContextOnly.tallyItem u n
    have hclose : ContextOnly n u ((u.tallyItem n).frequencyClose n (i.message x)) := hone.trans (ContextOnly.frequencyClose _ n _)
    have hquot : (u.tallyItem n).quotient = s.quotient := by rw [State.tallyItem_eq]; rfl
    have hatt : (u.tallyItem n).attention = s.attention := by rw [State.tallyItem_eq]; rfl
    have hpasses : ((u.tallyItem n).ctx n).patternPasses = c.patternPasses := by rw [htallied]; rfl
    have hpending : (u.tallyItem n).gatePending n = s.gatePending n := by
      rw [State.tallyItem_eq]
      exact State.gatePending_setCtx rfl
    obtain ⟨⟨hrecord, htotal, hlate, hseq, hposition, hdeadline, hslot⟩, hsingle, hcontinuous⟩ :=
      (u.tallyItem n).frequencyClose_run n (i.message x)
    rw [hpasses] at hslot hsingle
    rw [hpending] at hsingle
    rw [htallied] at hrecord htotal hlate hseq hposition hslot hsingle hcontinuous
    refine ⟨_, exec_message_closes harr hc hx hl ha hk hopen hA htakes hlater, hclose.onlyContext, hclose.work, hclose.config, hrecord, htotal,
      hlate, hseq, nextPosition_of_eq hposition, fun hp => ?_, fun hp => ?_, hdeadline, fun hr => ?_, fun hr => ?_⟩
    · have hp' : ((u.tallyItem n).ctx n).patternPasses = true := hpasses.trans ((passes_iff c).mp hp)
      have hgate : ((u.tallyItem n).ctx n).frequencyGate (i.message x) = gate := by
        rw [htallied]
        exact frequencyGate_tallied c (i.message x)
      rw [← hgate]
      exact handedOn_congr (State.frequencyClose_passed hp' (i.message x)) (by rw [htallied]) (by rw [hquot]; rfl) (by rw [hatt]; rfl)
        rfl rfl rfl
    · have hp' : c.patternPasses = false := by rwa [passes_iff, Bool.not_eq_true] at hp
      obtain ⟨hq, hat⟩ := State.frequencyClose_skipped (hpasses.trans hp') (i.message x)
      exact ⟨hslot hp', hq.trans hquot, hat.trans hatt⟩
    · obtain ⟨hstate, hflags, hstart⟩ := hsingle hr
      obtain ⟨hsettles, hends⟩ := endState_of_close (c := c) hstate
      exact ⟨hsettles, hends, hflags, hstart⟩
    · obtain ⟨hstate, hstart, hcount, hgen, hexpiry, hflags, htally⟩ := hcontinuous hr
      refine ⟨hstate, hstart, hcount, hgen, hexpiry.trans ?_, hflags, htally⟩
      rw [show tickOfStamp (i.message x).stamp = i.tick from tickOfStamp_stampOf _ _]
      rfl

end Sys2Proof.Machine
end

section
/-! The span of a closed FREQUENCY gate exceeds its gate time (O50), and the laws right after reset (O60). -/

namespace Sys2Proof.Machine

open Sys2Proof.Safety

/-! ### The arithmetic -/

/-- A stop stamp whose tick is later than G µs after the start stamp's tick lies more than G µs after the start stamp (R12, R13, R14). -/
theorem span_exceeds {start stop : Stamp} {g : Nat} (hg : g ≤ 100000000000)
    (h : laterTick (tickOfStamp stop) (tickOfStamp start + BitVec.ofNat 48 (250 * g)) = true) :
    4096 * 250 * g < (stop - start).toNat := by
  rw [laterTick_iff, toNat_sub_eq_mod, BitVec.toNat_add, BitVec.toNat_ofNat, toNat_tickOfStamp, toNat_tickOfStamp] at h
  rw [toNat_sub_eq_mod]
  have hstart := start.isLt
  have hstop := stop.isLt
  omega

/-- A closing message hands on a gate whose span exceeds the gate time (R99): the gate handed on is that of `exec_message_closes`, and its span is that of its two stamps. -/
theorem closed_gate_span {s : State} {n : Fin 16} {ch : Fin 8} {i : BusItem} {x : StampInfo} {g : Nat} (h : Arriving s n ch i)
    (hc : i.channel = ch) (hx : i.stamped = some x) (hl : ListedOn s n ch) (ha : AfterArm s n i) (hk : (s.ctx n).config.kind = .frequency)
    (hopen : (s.ctx n).gateOpen) (hA : (s.ctx n).config.channelA = ch) (htakes : (s.ctx n).config.senseA.takes i.sense = true)
    (hlater : laterTick i.tick (s.ctx n).live.expiryTick = true) (hp : Passes (s.ctx n)) (hg : g ≤ 100000000000)
    (hexpiry : (s.ctx n).live.expiryTick = tickOfStamp (s.ctx n).live.startStamp + BitVec.ofNat 48 (250 * g)) :
    ∃ (t : State) (gate : RawGate) (e : EdgeCount) (span : Stamp), exec (.stampedEdgeMessage n ch) s = .next t ∧
      (t.ctx n).slot = some gate ∧ gate.figures = .frequency e span (s.ctx n).live.startStamp ∧
      e = (if (s.ctx n).config.senseA = .any then (s.ctx n).live.edgeTally + 1 else x.count - (s.ctx n).live.startCount) ∧
      span = stampOf i.tick x.fine - (s.ctx n).live.startStamp ∧ 4096 * 250 * g < span.toNat := by
  have hctx := tallyItem_ctx (handed s n ch) n
  have hp' : (((handed s n ch).tallyItem n).ctx n).patternPasses = true := by
    rw [hctx]
    exact (passes_iff _).mp hp
  obtain ⟨hempty, hqueued⟩ := State.frequencyClose_passed hp' (i.message x)
  have hslot : ∃ b, (((((handed s n ch).tallyItem n).frequencyClose n (i.message x)).ctx n).slot =
      some { (((handed s n ch).tallyItem n).ctx n).frequencyGate (i.message x) with
        flags := { ((((handed s n ch).tallyItem n).ctx n).frequencyGate (i.message x)).flags with gap := b } }) := by
    by_cases hs : (((handed s n ch).tallyItem n).ctx n).slot = none
    · exact ⟨_, (hempty hs).1⟩
    · exact ⟨_, (hqueued hs).1⟩
  obtain ⟨b, hslot⟩ := hslot
  refine ⟨_, _, _, _, exec_message_closes h hc hx hl ha hk hopen hA htakes hlater, hslot, ?_, rfl, rfl, span_exceeds hg ?_⟩
  · rw [hctx]
    exact congrArg RawGate.figures (frequencyGate_tallied (s.ctx n) (i.message x))
  · rw [tickOfStamp_stampOf, ← hexpiry]
    exact hlater

/-! ### The expiry tick of an open gate -/

/-- A FREQUENCY context as the law wants it (R72, R91). -/
def FrequencyLawful (c : Context) : Prop :=
  c.config.kind = .frequency →
    (1 ≤ c.config.gateTime.toNat ∧ c.config.gateTime.toNat ≤ 100000000000) ∧
    (c.gateOpen → ∃ g : Nat, 1 ≤ g ∧ g ≤ 100000000000 ∧
      c.live.expiryTick = tickOfStamp c.live.startStamp + BitVec.ofNat 48 (250 * g))

theorem frequencyGatesLawful_iff (s : State) : FrequencyGatesLawful s ↔ ∀ n, FrequencyLawful (s.ctx n) := Iff.rfl

theorem frequencyLawful_of_kind {c : Context} (h : c.config.kind ≠ .frequency) : FrequencyLawful c := fun hk => absurd hk h

/-- A context with no open gate only needs its gate time in range. -/
theorem frequencyLawful_of_state {c : Context} (hst : ¬c.gateOpen)
    (hg : c.config.kind = .frequency → 1 ≤ c.config.gateTime.toNat ∧ c.config.gateTime.toNat ≤ 100000000000) : FrequencyLawful c :=
  fun hk => ⟨hg hk, fun ho => absurd ho hst⟩

theorem gateTicks_eq (g : BitVec 40) : gateTicks g = BitVec.ofNat 48 (250 * g.toNat) := by
  rw [gateTicks, Config.ticksPerMicrosecond, mul_comm]

/-- A gate kept, or opened under the gate time in force. -/
theorem FrequencyLawful.of_gateKept {c d : Context} (hc : FrequencyLawful c) (hcfg : d.config = { c.config with armTime := d.config.armTime })
    (h : GateKept c d) : FrequencyLawful d := by
  intro hk
  have hkind : c.config.kind = .frequency := by
    rw [hcfg] at hk
    exact hk
  have hgate : d.config.gateTime = c.config.gateTime := by rw [hcfg]
  obtain ⟨hrange, hopen⟩ := hc hkind
  rw [hgate]
  refine ⟨hrange, fun ho => ?_⟩
  obtain hnew | ⟨hco, hexpiry, hstart⟩ := h hk ho
  · rw [hgate, gateTicks_eq] at hnew
    exact ⟨_, hrange.1, hrange.2, hnew⟩
  · rw [hexpiry, hstart]
    exact hopen hco

theorem Move.frequencyLawful {s t : State} (h : Move s t) (hs : FrequencyGatesLawful s) : FrequencyGatesLawful t := by
  intro m
  have stands {u : State} (hu : u.ctx m = s.ctx m) : FrequencyLawful (u.ctx m) := by
    rw [hu]
    exact hs m
  cases h with
  | @write n d h =>
    by_cases hm : m = n
    · subst hm
      rw [State.ctx_setCtx_self]
      exact FrequencyLawful.of_gateKept (hs m) h.config h.gate
    · exact stands (s.ctx_setCtx_of_ne hm d)
  | raise _ => exact stands rfl
  | @handOn n g _ =>
    by_cases hm : m = n
    · subst hm
      rw [State.handOn_ctx]
      exact hs m
    · exact stands ((ContextOnly.handOn s n g).others m hm)
  | @endRun n l =>
    by_cases hm : m = n
    · subst hm
      rw [endRun_ctx, State.ctx_setCtx_self]
      refine frequencyLawful_of_state ?_ fun hk => (hs m hk).1
      dsimp only [Context.gateOpen, endState]
      split <;> simp
    · exact stands (((ContextOnly.endRun _ n).others m hm).trans (s.ctx_setCtx_of_ne hm _))
  | @post n f seq flags p =>
    by_cases hm : m = n
    · subst hm
      rw [State.post_ctx]
      refine FrequencyLawful.of_gateKept (hs m) rfl fun _ ho => .inr ⟨?_, rfl, rfl⟩
      dsimp only [Context.gateOpen] at ho
      split at ho
      · simp at ho
      · exact ho
    · exact stands ((ContextOnly.post s n f seq flags p).others m hm)
  | bus => exact stands rfl

/-- A clamped gate time is in range (R72). -/
theorem clampGateTime_range (g : BitVec 40) : 1 ≤ (clampGateTime g).toNat ∧ (clampGateTime g).toNat ≤ 100000000000 := by
  rw [clampGateTime_eq, BitVec.toNat_ofNat, Nat.mod_eq_of_lt (by omega)]
  omega

/-- A defined FREQUENCY context has its gate time in range (R70, R72). -/
theorem judgeBlock_gateTime {b : ConfigBlock} {cfg : CtxConfig} {clamped : Bool} (h : judgeBlock b = .take cfg clamped)
    (hk : cfg.kind = .frequency) : 1 ≤ cfg.gateTime.toNat ∧ cfg.gateTime.toNat ≤ 100000000000 := by
  have hstored : ∃ kind gate, cfg.kind = kind ∧ cfg.gateTime = if holdsGateTime kind gate then clampGateTime b.gateTime else 0 := by
    unfold judgeBlock at h
    split at h
    · cases h
    · split at h
      · cases h
      · dsimp only at h
        split at h
        · split at h
          · split at h
            · split at h
              · cases h
              · cases h
                exact ⟨_, _, rfl, rfl⟩
            · cases h
          · cases h
        · cases h
  obtain ⟨kind, gate, rfl, hg⟩ := hstored
  rw [hg, hk]
  exact clampGateTime_range b.gateTime

theorem Effect.frequencyLawful {s t : State} (h : Effect s t) (hs : FrequencyGatesLawful s) : FrequencyGatesLawful t := by
  have write {u : State} {n : Fin 16} {d : Context} (hu : FrequencyGatesLawful u) (hd : FrequencyLawful d) :
      FrequencyGatesLawful (u.setCtx n d) := State.forall_setCtx (P := fun _ => FrequencyLawful) hu hd
  obtain h | ⟨h, -⟩ := h.contexts_or
  case inr =>
    intro m
    rw [State.ctx_of_contexts h m]
    exact hs m
  cases h with
  | move h => exact h.frequencyLawful hs
  | softReset _ =>
    intro m
    rw [show State.ctx { s.softReset with port := s.port } m = Context.free from s.ctx_softReset m]
    exact nofun
  | define _ hj => exact write hs (frequencyLawful_of_state (by simp [Context.gateOpen]) (judgeBlock_gateTime hj))
  | @modify n sel v cfg _ hj =>
    obtain ⟨lim, rm, rfl⟩ := judgeModify_take hj
    refine write hs fun hk => ?_
    obtain ⟨hrange, hopen⟩ := hs n hk
    refine ⟨?_, hopen⟩
    dsimp only [Context.modify, modifiedConfig]
    split
    · exact clampGateTime_range v.gateTime
    · exact hrange
  | @abortRun n =>
    refine write (write hs ?_) ?_
    · exact frequencyLawful_of_state (by simp [Context.gateOpen]) fun hk => (hs n hk).1
    · rw [State.ctx_modCtx_self]
      exact frequencyLawful_of_state (by simp [Context.gateOpen]) fun hk => (hs n hk).1
  | retire _ => exact write hs (frequencyLawful_of_kind nofun)
  | @snapshot n => exact write hs (hs n)
  | @take n _ _ _ _ _ => exact write (u := s) (d := { s.ctx n with slot := none }) hs (hs n)
  | complete _ =>
    rw [State.completeWork_eq]
    split
    · exact hs
    · exact Move.frequencyLawful .post hs

theorem frequencyGatesLawful_reset : FrequencyGatesLawful State.reset := fun n => by
  rw [State.ctx_reset]
  exact nofun

/-- Settles O50: the arithmetic of the stamps, the gate that a closing message hands on, and that no effect breaks the law of the expiry
tick. -/
theorem frequencySpanExceedsGateTime : Obligations.FrequencySpanExceedsGateTime := by
  refine ⟨fun start stop c _ hg h => ?_, fun s n ch i x g h hc hx hl ha hk hopen hA htakes hlater hp _ hg hexpiry => ?_,
    fun _ _ hs h => ?_⟩
  · rw [gateLength, mul_comm] at h
    exact span_exceeds hg h
  · exact closed_gate_span h hc hx hl ha hk hopen hA htakes hlater hp hg hexpiry
  · exact (Kept.mk (fun _ _ h => h.frequencyLawful) (fun _ _ => id) (fun _ _ => id) (fun _ _ => id) (fun _ => id)
      frequencyGatesLawful_reset).step hs h

/-- Settles O60: each law was proved of the reset state where it was proved of every step. -/
theorem lawsHoldAtReset : Obligations.LawsHoldAtReset :=
  have hgates := gateLaws_free State.ctx_reset rfl
  ⟨hgates.1, hgates.2, overrunOnlyWhileFresh_reset, attentionLawful_reset rfl, tablesRise_reset, serviceLaw_reset.lists, serviceLaw_reset.queue,
    serviceLaw_reset.init, serviceLaw_reset.service, frequencyGatesLawful_reset⟩

end Sys2Proof.Machine
end

section
/-! What every command and event keeps of the port, the queue, the timescale, the monitor and INIT (O1, O2, O10, O18), told from
`exec_step`. -/

namespace Sys2Proof.Machine

open Sys2Proof.Safety

/-! ### What no effect moves -/

/-- The port, the queue of commands and the timescale stand, SEARCHING is not entered, and INIT is not set. -/
structure Steady (s t : State) : Prop where
  port : t.port = s.port
  pending : t.pending = s.pending
  timescale : t.clock.timescale = s.clock.timescale
  monitor : t.clock.monitor = .searching → s.clock.monitor = .searching
  init : s.engine.init = false → t.engine.init = false

namespace Steady

theorem refl (s : State) : Steady s s := ⟨rfl, rfl, rfl, id, id⟩

theorem trans {s t u : State} (h : Steady s t) (k : Steady t u) : Steady s u :=
  ⟨k.port.trans h.port, k.pending.trans h.pending, k.timescale.trans h.timescale, fun hu => h.monitor (k.monitor hu),
    fun hs => k.init (h.init hs)⟩

end Steady

theorem Move.steady {s t : State} (h : Move s t) : Steady s t :=
  ⟨h.port, h.pending, congrArg Clock.timescale h.clock, by rw [h.clock]; exact id, by rw [h.engine]; exact id⟩

theorem Effect.steady {s t : State} (h : Effect s t) : Steady s t := by
  cases h with
  | context h =>
    cases h with
    | move h => exact h.steady
    | softReset _ => exact ⟨rfl, rfl, rfl, id, fun h => s.engine.softReset_kept.2.2.2.trans h⟩
    | @complete w _ =>
      have hframe := s.completeWork_frame w
      have hclock : (s.completeWork w).clock = s.clock := (congrArg State.clock hframe :)
      have hengine : (s.completeWork w).engine = s.engine := (congrArg State.engine hframe :)
      exact ⟨(congrArg State.port hframe :), (congrArg State.pending hframe :), congrArg Clock.timescale hclock, by rw [hclock]; exact id,
        by rw [hengine]; exact id⟩
    | _ => exact ⟨rfl, rfl, rfl, id, id⟩
  | monitor h => exact ⟨rfl, rfl, rfl, fun hs => absurd hs h, id⟩
  | endSearch =>
    obtain ⟨-, h⟩ | ⟨-, h⟩ := s.endSearch_eq <;> rw [h]
    · exact .refl s
    · exact ⟨rfl, rfl, rfl, id, id⟩
  | @request k c _ =>
    obtain ⟨q, h⟩ := State.request_eq k s c
    rw [h]
    exact ⟨rfl, rfl, rfl, id, id⟩
  | @abortChannel c _ =>
    obtain h | ⟨kind, hist, empties, h⟩ := s.abortChannel_eq c
    · rw [h]
      exact .refl s
    · rw [h]
      cases empties <;> exact ⟨rfl, rfl, rfl, id, id⟩
  | @longComplete r _ =>
    rw [State.longComplete_eq]
    refine ⟨rfl, rfl, rfl, id, fun hs => ?_⟩
    rw [State.raise_engine, State.emptyHistories_engine, State.setEngine_engine, Engine.longFinished, Engine.finish_init, hs, Bool.false_and]
  | @shortComplete r _ =>
    rw [State.shortComplete_eq]
    have hinit : (s.engine.shortFinished r (correlationPasses s.engine.histogram 8192)).init = s.engine.init := Engine.finish_init ..
    unfold State.raiseDrift
    split <;> exact ⟨rfl, rfl, rfl, id, fun hs => hinit.trans hs⟩
  | shortTimeout =>
    have h := TickOnly.shortTimeout s
    exact ⟨h.port, h.pending, h.timescale, by rw [h.monitor]; exact id, by rw [h.init]; exact id⟩
  | _ => exact ⟨rfl, rfl, rfl, id, id⟩

theorem Effects.steady {s t : State} (h : Effects s t) : Steady s t := by
  induction h with
  | refl => exact .refl s
  | tail _ h ih => exact ih.trans h.steady

/-- A step of the timescale moves it by one and leaves port, queue, monitor, INIT and the contexts. -/
theorem State.advance_eq (s : State) :
    s.advance.clock = { s.elapse.clock with timescale := s.clock.timescale + 1 } ∧ s.advance.port = s.port ∧ s.advance.pending = s.pending ∧
      s.advance.engine = s.elapse.engine ∧ s.advance.contexts = s.contexts := by
  unfold State.advance
  dsimp only
  split <;> exact ⟨rfl, rfl, rfl, rfl, rfl⟩

/-! ### The statements -/

/-- Settles O1: the step's definition. -/
theorem stepRunsFrontCommand : Obligations.StepRunsFrontCommand := fun _ _ _ => rfl

theorem Step.pending {c : Instr} {s t : State} (h : Step s c t) : t.pending = s.pending := by
  cases h with
  | port _ h => exact h.steady.pending
  | event h => exact h.steady.pending
  | load _ => rfl
  | tick _ h => exact (State.advance_eq _).2.2.1.trans h.steady.pending
  | syncRefused h => exact (State.advance_eq _).2.2.1.trans h.steady.pending
  | syncLoaded h _ => exact h.steady.pending
  | reset => rfl

theorem Step.port_of_not_usesPort {c : Instr} {s t : State} (h : Step s c t) (hc : ¬UsesPort c) (hr : c ≠ .powerOnReset) :
    t.port = s.port := by
  cases h with
  | port hport _ => exact absurd hport hc
  | event h => exact h.steady.port
  | load _ => exact absurd (.inl rfl) hc
  | tick _ h => exact (State.advance_eq _).2.1.trans h.steady.port
  | syncRefused h => exact (State.advance_eq _).2.1.trans h.steady.port
  | syncLoaded h _ => exact h.steady.port
  | reset => exact absurd rfl hr

/-- Settles O2: `exec_step`, and what each way of it leaves. -/
theorem everyCommandAnswersNext : Obligations.EveryCommandAnswersNext := by
  intro c s
  obtain ⟨t, ht, hstep⟩ := exec_step c s
  refine ⟨t, ht, hstep.pending, fun hframe hstart hdiscard hend hsnap hreset => hstep.port_of_not_usesPort ?_ hreset⟩
  rintro (h | h | ⟨k, h⟩ | h | h)
  · rw [hframe] at h
    cases h
  · exact hstart h
  · exact hdiscard k h
  · exact hend h
  · exact hsnap h

/-- Only power-on reset sets INIT or enters SEARCHING. -/
theorem Step.init_monitor {c : Instr} {s t : State} (h : Step s c t) (hc : c ≠ .powerOnReset) :
    (s.engine.init = false → t.engine.init = false) ∧ (t.clock.monitor = .searching → s.clock.monitor = .searching) := by
  have advances {u : State} (hu : Steady s u) :
      (s.engine.init = false → u.advance.engine.init = false) ∧
        (u.advance.clock.monitor = .searching → s.clock.monitor = .searching) := by
    rw [(State.advance_eq u).1, (State.advance_eq u).2.2.2.1]
    exact ⟨hu.init, hu.monitor⟩
  cases h with
  | port _ h => exact ⟨h.steady.init, h.steady.monitor⟩
  | event h => exact ⟨h.steady.init, h.steady.monitor⟩
  | load _ => exact ⟨id, id⟩
  | tick _ h => exact advances h.steady
  | syncRefused h => exact advances h.steady
  | syncLoaded h _ => exact ⟨h.steady.init, h.steady.monitor⟩
  | reset => exact absurd rfl hc

/-- Settles O10: the four checks of INIT, and that no step but power-on reset sets it. -/
theorem initRefusesUntilItEnds : Obligations.InitRefusesUntilItEnds := by
  refine ⟨fun s hf hinit => ⟨?_, fun n k t hk => ?_, fun m k => ?_, fun m => ?_⟩, fun c s t hc h => ((step_of_exec h).init_monitor hc).1⟩
  · simp only [exec, execSoftReset, State.runCommand_of_inFrame hf, hinit, if_true]
    rfl
  · simp only [exec, execArm, State.runCommand_of_inFrame hf, indexOf_of_eq hk, hinit, if_true]
    rfl
  · exact exec_calibrate_of_init hf hinit
  · simp only [exec, execAbortCalibration, State.runCommand_of_inFrame hf, hinit, if_true]
    rfl

/-- A step that leaves a context active leaves the timescale or moves it by one. -/
theorem Step.timescale {c : Instr} {s t : State} (h : Step s c t) (hc : c ≠ .powerOnReset) (ha : t.anyActive = true) :
    t.clock.timescale = s.clock.timescale ∨ t.clock.timescale = s.clock.timescale + 1 := by
  have inactive {u : State} (hu : u.anyActive = false) (hctx : t.contexts = u.contexts) : False := by
    rw [State.anyActive, hctx, ← State.anyActive, hu] at ha
    cases ha
  have advances {u : State} (hu : Steady s u) : u.advance.clock.timescale = s.clock.timescale + 1 := by
    rw [(State.advance_eq u).1, hu.timescale]
  cases h with
  | port _ h => exact .inl h.steady.timescale
  | event h => exact .inl h.steady.timescale
  | load hload => exact (inactive hload rfl).elim
  | tick _ h => exact .inr (advances h.steady)
  | syncRefused h => exact .inr (advances h.steady)
  | syncLoaded _ hload => exact (inactive hload rfl).elim
  | reset => exact absurd rfl hc

/-- Settles O18: a step that moves the timescale by other than one tick is a load, and leaves no context active. -/
theorem noLoadUnderActiveContext : Obligations.NoLoadUnderActiveContext := fun _ _ t hc h hactive =>
  (step_of_exec h).timescale hc ((anyActive_iff t).mpr hactive)

end Sys2Proof.Machine
end

section
/-! The timescale, SYNC and the reference (spec/01_timescale_reference_and_stamps.md): O13 to O17. -/

namespace Sys2Proof.Machine

open Sys2Proof.Safety

/-! ### The reference search -/

/-- The auto-initialization queues a LONG entry for each channel in channel order (R57). -/
theorem Engine.autoInit_eq (e : Engine) :
    e.autoInit = { e with
      queue := e.queue ++
        [⟨0, .long⟩, ⟨1, .long⟩, ⟨2, .long⟩, ⟨3, .long⟩, ⟨4, .long⟩, ⟨5, .long⟩, ⟨6, .long⟩, ⟨7, .long⟩] } := rfl

theorem State.endSearch_of_running {s : State} {k : Nat} (h : s.clock.search = some k) :
    s.endSearch = { s with
      clock := { s.clock with search := none }
      engine := { s.engine with
        queue := s.engine.queue ++
          [⟨0, .long⟩, ⟨1, .long⟩, ⟨2, .long⟩, ⟨3, .long⟩, ⟨4, .long⟩, ⟨5, .long⟩, ⟨6, .long⟩, ⟨7, .long⟩] } } := by
  rw [State.endSearch, h]
  rfl

theorem State.endSearch_of_ended {s : State} (h : s.clock.search = none) : s.endSearch = s := by
  rw [State.endSearch, h]

/-- The search times out at its last tick alone (R10; log 14). -/
theorem State.searchTimeout_eq (s : State) :
    (s.clock.search = some 500000000 → s.searchTimeout = s.endSearch) ∧ (s.clock.search ≠ some 500000000 → s.searchTimeout = s) :=
  ⟨fun h => if_pos h, fun h => if_neg h⟩

/-- A context whose kind and state take a reference-loss notice (R97, R120, R135). -/
def Context.marksLoss (c : Context) : Prop :=
  (c.config.kind = .frequency ∧ (c.state = .gating ∨ c.state = .closing)) ∨
    (c.config.kind = .interval ∧ (c.state = .gating ∨ (c.state = .starting ∧ c.live.batchOpen = true))) ∨
    (c.config.kind = .totalize ∧ c.state = .gating)

theorem State.refLoss_of_marks {s : State} {n : Fin 16} (h : (s.ctx n).marksLoss) :
    s.refLoss n = s.modLive n fun l => { l with flags := { l.flags with ref := true } } := by
  unfold State.refLoss
  obtain ⟨hk, hst | hst⟩ | ⟨hk, hst | ⟨hst, hb⟩⟩ | ⟨hk, hst⟩ := h
  · simp only [hk, hst, if_true]
  · simp only [hk, hst, if_true]
  · simp only [hk, hst, if_true]
  · simp only [hk, hst, hb, if_true]
  · simp only [hk, hst, if_true]

theorem State.refLoss_of_not_marks {s : State} {n : Fin 16} (h : ¬(s.ctx n).marksLoss) : s.refLoss n = s := by
  refine if_neg fun hm => h ?_
  split at hm
  case h_1 hk hst => exact .inl ⟨hk, .inl hst⟩
  case h_2 hk hst => exact .inl ⟨hk, .inr hst⟩
  case h_3 hk hst => exact .inr (.inl ⟨hk, .inl hst⟩)
  case h_4 hk hst => exact .inr (.inl ⟨hk, .inr ⟨hst, hm⟩⟩)
  case h_5 hk hst => exact .inr (.inr ⟨hk, hst⟩)
  case h_6 => cases hm

/-- The part with the reference monitor in a state. -/
def State.withMonitor (s : State) (m : RefState) : State := { s with clock := { s.clock with monitor := m } }

/-- LOCK_ACHIEVED, by the state of the monitor (R7). -/
theorem exec_lockAchieved {s : State} (h : s.rstnLow = false) :
    (s.clock.monitor = .searching → exec .lockAchieved s = .next (s.withMonitor .locked).endSearch) ∧
    (s.clock.monitor = .locked → exec .lockAchieved s = .next s) ∧
    (s.clock.monitor = .holdover → exec .lockAchieved s = .next ((s.withMonitor .locked).raise sourceReference causeRegained)) := by
  have hhigh : ¬s.rstnLow = true := Bool.eq_false_iff.mp h
  refine ⟨fun hm => ?_, fun hm => ?_, fun hm => ?_⟩ <;> simp only [exec, execLockAchieved, if_neg hhigh, hm] <;> rfl

/-- LOCK_LOST, by the state of the monitor (R7, R9). -/
theorem exec_lockLost {s : State} (h : s.rstnLow = false) :
    (s.clock.monitor = .locked →
      exec .lockLost s = .next (((s.withMonitor .holdover).raise sourceReference causeLost).sendLossNotices)) ∧
    (s.clock.monitor ≠ .locked → exec .lockLost s = .next s) := by
  have hhigh : ¬s.rstnLow = true := Bool.eq_false_iff.mp h
  refine ⟨fun hm => ?_, fun hm => ?_⟩
  · simp only [exec, execLockLost, if_neg hhigh, hm]
    rfl
  · simp only [exec, execLockLost, if_neg hhigh]
    split
    · rfl
    · next hl => exact absurd hl hm
    · rfl

/-- The arrival of a reference-loss notice: one less on its way, and the context's mark. -/
theorem exec_referenceLossNotice {s : State} {n : Fin 16} (h : s.lossNotices[n] ≠ 0) :
    exec (.referenceLossNotice n) s =
      .next (({ s with lossNotices := s.lossNotices.set n (s.lossNotices[n] - 1) } : State).refLoss n) := by
  simp only [exec, execReferenceLossNotice, if_neg h]

/-- Settles O17: the end of the search by its two causes, and the notice in the two cases of `marksLoss`. -/
theorem searchEndsAndLossNoticesMark : Obligations.SearchEndsAndLossNoticesMark := by
  refine ⟨fun s h => ?_, fun s k hlow hm h => ?_, fun s hlow hm h => ?_, fun s n h => ?_⟩
  · rw [show exec .referenceSearchTimeout s = .next s.searchTimeout from rfl, s.searchTimeout_eq.1 h, State.endSearch_of_running h]
  · rw [(exec_lockAchieved hlow).1 hm, State.endSearch_of_running (s := s.withMonitor .locked) h]
    rfl
  · rw [(exec_lockAchieved hlow).1 hm, State.endSearch_of_ended (s := s.withMonitor .locked) h]
    rfl
  · let u : State := { s with lossNotices := s.lossNotices.set n (s.lossNotices[n] - 1) }
    have hself : u.lossNotices[n] = s.lossNotices[n] - 1 := by simp [u]
    have hother (m : Fin 16) (hm : m ≠ n) : u.lossNotices[m] = s.lossNotices[m] := by
      have : n.val ≠ m.val := fun h => hm (Fin.ext h.symm)
      simp [u, this]
    have hone := (ContextOnly.refLoss u n)
    refine ⟨_, exec_referenceLossNotice h, ?_, ?_, fun m hm => ⟨hone.others m hm, ?_⟩, fun hmarks => ?_, fun hmarks => ?_⟩
    · by_cases hmarks : (u.ctx n).marksLoss
      · rw [State.refLoss_of_marks hmarks]
        rfl
      · rw [State.refLoss_of_not_marks hmarks]
    · rw [hone.lossNotices]
      exact hself
    · rw [hone.lossNotices]
      exact hother m hm
    · rw [State.refLoss_of_marks (s := u) hmarks, State.ctx_modLive_self]
      rfl
    · rw [State.refLoss_of_not_marks (s := u) hmarks]
      rfl

/-! ### The reference monitor -/

/-- The status byte's places (R170). -/
theorem State.statusByte_getLsbD (s : State) (k : Nat) :
    s.statusByte.getLsbD k = true ↔
      (k = 7 ∧ s.engine.init = true) ∨ (k = 6 ∧ s.attn = true) ∨ (k = 5 ∧ s.engine.calActive = true) ∨ (k = 4 ∧ s.locked = true) ∨
        (k = 3 ∧ s.port.frameErr = true) ∨ (k = 2 ∧ s.port.lastRefused = true) ∨ (k = 1 ∧ s.anyFresh = true) ∨
        (k = 0 ∧ s.quotient.busy = true) := by
  simp only [State.statusByte, BitVec.getLsbD_or, Bool.or_eq_true, flagBit_getLsbD (w := 8) (by decide : 7 < 8),
    flagBit_getLsbD (w := 8) (by decide : 6 < 8), flagBit_getLsbD (w := 8) (by decide : 5 < 8), flagBit_getLsbD (w := 8) (by decide : 4 < 8),
    flagBit_getLsbD (w := 8) (by decide : 3 < 8), flagBit_getLsbD (w := 8) (by decide : 2 < 8), flagBit_getLsbD (w := 8) (by decide : 1 < 8),
    flagBit_getLsbD (w := 8) (by decide : 0 < 8), or_assoc]

theorem State.locked_iff (s : State) : s.locked = true ↔ s.clock.monitor = .locked := decide_eq_true_iff

theorem State.statusByte_locked (s : State) : s.statusByte.getLsbD 4 = true ↔ s.clock.monitor = .locked := by
  rw [State.statusByte_getLsbD, ← State.locked_iff]
  simp

/-- Settles O16: the monitor's three states one by one, and that no step but power-on reset enters SEARCHING. -/
theorem referenceMonitorMoves : Obligations.ReferenceMonitorMoves := by
  refine ⟨fun s hlow => ⟨fun hm => ⟨⟨_, (exec_lockAchieved hlow).1 hm, ?_⟩, (exec_lockLost hlow).2 (by rw [hm]; nofun)⟩,
    fun hm => ⟨(exec_lockAchieved hlow).2.1 hm, _, (exec_lockLost hlow).1 hm, rfl, ?_, fun n => ?_, rfl⟩,
    fun hm => ⟨(exec_lockLost hlow).2 (by rw [hm]; nofun), _, (exec_lockAchieved hlow).2.2 hm, rfl, ?_, rfl⟩⟩,
    State.statusByte_locked, fun s hf => ⟨_, exec_readDeviceStatus hf, ?_⟩, fun c s t hc h => ((step_of_exec h).init_monitor hc).2⟩
  · obtain ⟨-, h⟩ | ⟨-, h⟩ := (s.withMonitor .locked).endSearch_eq <;> rw [h] <;> exact ⟨rfl, rfl⟩
  · exact State.raise_raised (s.withMonitor .holdover) sourceReference causeLost
  · simp [State.sendLossNotices, State.withMonitor]
  · exact State.raise_raised (s.withMonitor .locked) sourceReference causeRegained
  · show some (refStateCode s.clock.monitor) = _
    cases s.clock.monitor <;> rfl

/-! ### Loads -/

theorem syncModeOf_eq (mode : Byte) :
    (mode = 0 → syncModeOf mode = some .off) ∧ (mode = 1 → syncModeOf mode = some .loadOnRise) ∧
      (2 ≤ mode.toNat → syncModeOf mode = none) := by
  refine ⟨?_, ?_, fun h => ?_⟩
  · rintro rfl
    rfl
  · rintro rfl
    rfl
  · have h0 : mode ≠ 0 := by rintro rfl; simp at h
    have h1 : mode ≠ 1 := by rintro rfl; simp at h
    rw [syncModeOf, if_neg h0, if_neg h1]

theorem exec_loadTimescale {s : State} (hf : InFrame s) (v : Tick) :
    (s.anyActive = true → exec (.loadTimescale v) s = .next (refusedWith 6 s .inUse)) ∧
    (s.anyActive = false → exec (.loadTimescale v) s = .next (takenWith 6 ((s.restamp (v + 1)).setTimescale v) [])) := by
  constructor <;> intro ha <;> simp only [exec, execLoadTimescale, State.runCommand_of_inFrame hf, ha] <;> rfl

theorem not_anyActive_iff (s : State) : s.anyActive = false ↔ ∀ n, ¬Active s n := by
  rw [← Bool.not_eq_true, anyActive_iff, not_exists]

/-- A coarse tick with RSTN high: what is due, then the step (R1; log 7). -/
theorem exec_coarseTick {s : State} (h : s.rstnLow = false) : exec .coarseTick s = .next s.settleTick.advance := by
  have hhigh : ¬s.rstnLow = true := Bool.eq_false_iff.mp h
  simp only [exec, execCoarseTick, State.tick, if_neg hhigh]

/-- Settles O14: the six bytes spell the timescale, and the load is the model's `restamp` and `setTimescale`. -/
theorem timescaleReadAndLoaded : Obligations.TimescaleReadAndLoaded := by
  intro s hf
  refine ⟨⟨bytesOf 6 s.clock.timescale.toNat, ?_, bytesOf_length _ _, valueOf_bytesOf_of_lt s.clock.timescale.isLt⟩,
    fun v => ⟨fun ha => (exec_loadTimescale hf v).1 ((anyActive_iff s).mpr ha), fun ha =>
      ⟨_, (exec_loadTimescale hf v).2 ((not_anyActive_iff s).mpr ha), rfl, _, exec_coarseTick hf.1, ?_⟩⟩⟩
  · simp only [exec, execReadTimescale, State.runCommand_of_inFrame hf]
    rfl
  · rw [(State.advance_eq _).1, (TickOnly.settleTick _).timescale]
    rfl

/-! ### SYNC -/

/-- A SYNC edge with RSTN high in LOAD_ON_RISE (R6). -/
theorem exec_syncEdge {s : State} (h : s.rstnLow = false) (hm : s.clock.syncMode = .loadOnRise) :
    (s.settleTick.anyActive = true →
      exec .syncEdge s = .next ((s.settleTick.advance.raise sourceSync causeRefused).syncOff)) ∧
    (s.settleTick.anyActive = false →
      exec .syncEdge s = .next
        (((s.settleTick.restamp s.settleTick.clock.preset).elapse.setTimescale s.settleTick.clock.preset).raise sourceSync
          causeLoaded).syncOff) := by
  have hacts : ¬(s.rstnLow = true ∨ s.clock.syncMode = .off) := by simp [h, hm]
  constructor <;> intro ha <;> simp only [exec, execSyncEdge, State.syncTick, if_neg hacts, ha] <;> rfl

/-- The step of the timescale raises WRAP alone (R1). -/
theorem State.advance_source (s : State) {id : Fin 20} (h : id ≠ sourceTimescale) : s.advance.source id = s.source id := by
  unfold State.advance
  dsimp only
  split
  · exact State.source_setSource_of_ne _ h _
  · rfl

theorem State.advance_wrap (s : State) :
    (s.advance.source sourceTimescale).events =
      (s.source sourceTimescale).events |||
        (if s.clock.timescale = BitVec.allOnes 48 then (s.source sourceTimescale).mask &&& 0b0001#4 else 0) := by
  unfold State.advance
  dsimp only
  split
  · exact congrArg Source.events ((s.elapse.setTimescale (s.clock.timescale + 1)).raise_raised sourceTimescale causeWrap).1
  · exact BitVec.or_zero.symm

/-- The step of the timescale leaves channels, lists, tables and the quotient unit. -/
theorem State.advance_kept (s : State) :
    s.advance.channels = s.channels ∧ s.advance.listeners = s.listeners ∧ s.advance.quotient = s.quotient ∧
      s.advance.engine.tables = s.engine.tables ∧ s.advance.engine.generations = s.engine.generations ∧
      s.advance.engine.queue = s.engine.queue ∧ s.advance.engine.outcomes = s.engine.outcomes := by
  unfold State.advance
  dsimp only
  split <;> exact ⟨rfl, rfl, rfl, rfl, rfl, rfl, rfl⟩

/-- Settles O15: SET SYNC by its mode, and the edge by `exec_syncEdge` at a tick that leaves the part as it stands. -/
theorem syncIsOneShot : Obligations.SyncIsOneShot := by
  refine ⟨fun s mode preset hf => ⟨fun h => ?_, fun h => ?_, fun h => ?_⟩, fun s h => ?_, fun s hlow hquiet hm => ⟨fun ha => ?_, fun ha => ?_⟩⟩
  · simp only [exec, execSetSync, State.runCommand_of_inFrame hf, (syncModeOf_eq mode).1 h]
    rfl
  · simp only [exec, execSetSync, State.runCommand_of_inFrame hf, (syncModeOf_eq mode).2.1 h]
    rfl
  · simp only [exec, execSetSync, State.runCommand_of_inFrame hf, (syncModeOf_eq mode).2.2 h]
    rfl
  · exact congrArg _ (if_pos (.inr h))
  · have hexec := (exec_syncEdge hlow hm).2
    rw [show s.settleTick = s from hquiet] at hexec
    refine ⟨_, hexec ((not_anyActive_iff s).mpr ha), rfl, rfl, rfl, ?_, rfl, rfl, rfl, rfl, rfl, rfl⟩
    exact State.raise_raised ((s.restamp s.clock.preset).elapse.setTimescale s.clock.preset) sourceSync causeLoaded
  · have hexec := (exec_syncEdge hlow hm).1
    rw [show s.settleTick = s from hquiet] at hexec
    obtain ⟨hclock, hport, -, -, hctx⟩ := s.advance_eq
    obtain ⟨hchannels, hlisteners, hquotient, htables, -⟩ := s.advance_kept
    obtain ⟨hraised, -, hothers⟩ := s.advance.raise_raised sourceSync causeRefused
    have hsync := s.advance_source (id := sourceSync) (by decide)
    refine ⟨_, hexec ((anyActive_iff s).mpr ha), congrArg Clock.timescale hclock, rfl, congrArg Clock.elapsed hclock, ?_,
      fun id hid htime => ?_, hctx, hchannels, htables, hquotient, hlisteners, hport⟩
    · have hevents := congrArg Source.events hraised
      rw [hsync] at hevents
      exact hevents
    · exact (hothers id hid).trans (s.advance_source htime)

/-! ### The counts of a tick -/

/-- What is due at a tick is moves of contexts, then the end of a short calibration, then that of the search (log 7). -/
theorem State.settleTick_moves (s : State) : ∃ d, Moves s d ∧ s.settleTick = d.shortTimeout.searchTimeout :=
  ⟨_, (Moves.deliverOverdue s).trans (Moves.foldl _ (fun s n => Moves.reachContext s n) _ _), rfl⟩

theorem Moves.clock_engine {s t : State} (h : Moves s t) : t.clock = s.clock ∧ t.engine = s.engine := by
  induction h with
  | refl => exact ⟨rfl, rfl⟩
  | tail _ h ih => exact ⟨h.clock.trans ih.1, h.engine.trans ih.2⟩

theorem State.searchTimeout_engine (s : State) :
    s.searchTimeout.engine.running = s.engine.running ∧ s.searchTimeout.engine.outcomes = s.engine.outcomes := by
  unfold State.searchTimeout State.endSearch
  split
  · split <;> exact ⟨rfl, rfl⟩
  · exact ⟨rfl, rfl⟩

theorem State.shortTimeout_clock (s : State) : s.shortTimeout.clock = s.clock ∧ s.shortTimeout.engine.queue = s.engine.queue := by
  obtain h | ⟨r, -, -, -, -, h⟩ := s.shortTimeout_eq <;> rw [h] <;> exact ⟨rfl, rfl⟩

/-- The search after what is due at a tick (R10). -/
theorem State.settleTick_search (s : State) :
    (s.clock.search = some 500000000 → s.settleTick.clock.search = none ∧ s.settleTick.engine.queue = s.engine.queue ++
      [⟨0, .long⟩, ⟨1, .long⟩, ⟨2, .long⟩, ⟨3, .long⟩, ⟨4, .long⟩, ⟨5, .long⟩, ⟨6, .long⟩, ⟨7, .long⟩]) ∧
    (s.clock.search ≠ some 500000000 →
      s.settleTick.clock.search = s.clock.search ∧ s.settleTick.engine.queue = s.engine.queue) := by
  obtain ⟨d, hd, heq⟩ := s.settleTick_moves
  obtain ⟨hclock, hengine⟩ := hd.clock_engine
  obtain ⟨hshort, hqueue⟩ := d.shortTimeout_clock
  have hsearch : d.shortTimeout.clock.search = s.clock.search := by rw [hshort, hclock]
  rw [hengine] at hqueue
  rw [heq]
  refine ⟨fun h => ?_, fun h => ?_⟩
  · rw [(State.searchTimeout_eq _).1 (hsearch.trans h), State.endSearch_of_running (hsearch.trans h), ← hqueue]
    exact ⟨rfl, rfl⟩
  · rw [(State.searchTimeout_eq _).2 (hsearch ▸ h)]
    exact ⟨hsearch, hqueue⟩

/-- The running calibration after what is due at a tick (R46). -/
theorem State.settleTick_running (s : State) :
    (∀ r, s.engine.running = some r → r.kind = .short → r.ticks = 2500000000 → r.hits < 8192 →
      s.settleTick.engine.running = none ∧ s.settleTick.engine.outcomes[r.channel] = ⟨some .short, .timeout, 0⟩) ∧
    ((∀ r, s.engine.running = some r → r.kind = .short → (r.ticks ≠ 2500000000 ∨ 8192 ≤ r.hits)) →
      s.settleTick.engine.running = s.engine.running) := by
  obtain ⟨d, hd, heq⟩ := s.settleTick_moves
  have hengine := hd.clock_engine.2
  rw [heq, (State.searchTimeout_engine _).1, (State.searchTimeout_engine _).2, ← hengine]
  refine ⟨fun r hr hk ht hh => ?_, fun h => ?_⟩
  · have hdue : r.kind = .short ∧ r.ticks = Config.shortLimit ∧ r.hits < Config.shortHits := ⟨hk, ht, hh⟩
    unfold State.shortTimeout
    rw [hr]
    dsimp only
    rw [if_pos hdue]
    exact ⟨rfl, by simp [Engine.setOutcome, State.setEngine]⟩
  · obtain h' | ⟨r, hr, hk, ht, hh, -⟩ := d.shortTimeout_eq
    · rw [h']
    · obtain hne | hge := h r hr hk
      · exact absurd ht hne
      · exact absurd hh (Nat.not_lt.mpr hge)

/-- What a tick makes of the counts of elapsed ticks (R4, R10, R46), as O13 states it. -/
def TickCounted (s t : State) : Prop :=
  t.clock.elapsed = s.clock.elapsed + 1 ∧
  (s.clock.search = none → t.clock.search = none ∧ t.engine.queue = s.engine.queue) ∧
  (∀ k, s.clock.search = some k → k ≠ 500000000 → t.clock.search = some (k + 1) ∧ t.engine.queue = s.engine.queue) ∧
  (s.clock.search = some 500000000 → t.clock.search = none ∧ t.engine.queue = s.engine.queue ++
    [⟨0, .long⟩, ⟨1, .long⟩, ⟨2, .long⟩, ⟨3, .long⟩, ⟨4, .long⟩, ⟨5, .long⟩, ⟨6, .long⟩, ⟨7, .long⟩]) ∧
  (s.engine.running = none → t.engine.running = none) ∧
  (∀ r, s.engine.running = some r → r.kind = .long → t.engine.running = some r) ∧
  (∀ r, s.engine.running = some r → r.kind = .short → (r.ticks ≠ 2500000000 ∨ 8192 ≤ r.hits) →
    t.engine.running = some { r with ticks := r.ticks + 1 }) ∧
  (∀ r, s.engine.running = some r → r.kind = .short → r.ticks = 2500000000 → r.hits < 8192 →
    t.engine.running = none ∧ t.engine.outcomes[r.channel] = ⟨some .short, .timeout, 0⟩)

theorem State.elapse_running (s : State) :
    s.elapse.engine.running = s.engine.running.map fun r => if r.kind = .short then { r with ticks := r.ticks + 1 } else r := rfl

/-- The counts after what is due and one elapsed tick, whatever becomes of the timescale. -/
theorem tickCounted_of_elapse {s t : State} (helapsed : t.clock.elapsed = s.clock.elapsed + 1)
    (hsearch : t.clock.search = s.settleTick.clock.search.map fun k => k + 1) (hqueue : t.engine.queue = s.settleTick.engine.queue)
    (hrunning : t.engine.running = s.settleTick.elapse.engine.running) (houtcomes : t.engine.outcomes = s.settleTick.engine.outcomes) :
    TickCounted s t := by
  obtain ⟨hends, hstays⟩ := s.settleTick_search
  obtain ⟨htimeout, hruns⟩ := s.settleTick_running
  rw [State.elapse_running] at hrunning
  refine ⟨helapsed, fun h => ?_, fun k h hk => ?_, fun h => ?_, fun h => ?_, fun r h hk => ?_, fun r h hk hno => ?_, fun r h hk ht hh => ?_⟩
  · obtain ⟨h1, h2⟩ := hstays (by rw [h]; nofun)
    rw [hsearch, hqueue, h1, h2, h]
    exact ⟨rfl, rfl⟩
  · obtain ⟨h1, h2⟩ := hstays (by rw [h]; exact fun e => hk (Option.some.inj e))
    rw [hsearch, hqueue, h1, h2, h]
    exact ⟨rfl, rfl⟩
  · obtain ⟨h1, h2⟩ := hends h
    rw [hsearch, hqueue, h1, h2]
    exact ⟨rfl, rfl⟩
  · rw [hrunning, hruns (fun r hr => nomatch h.symm.trans hr), h]
    rfl
  · have hlong : r.kind ≠ .short := by rw [hk]; nofun
    rw [hrunning, hruns fun r' hr hs => by rw [h] at hr; cases hr; exact absurd hs hlong, h, Option.map_some, if_neg hlong]
  · rw [hrunning, hruns fun r' hr _ => Option.some.inj (h.symm.trans hr) ▸ hno, h, Option.map_some, if_pos hk]
  · obtain ⟨h1, h2⟩ := htimeout r h hk ht hh
    rw [hrunning, houtcomes, h1]
    exact ⟨rfl, h2⟩

theorem State.advance_counts (s : State) :
    s.advance.clock.elapsed = s.clock.elapsed + 1 ∧ (s.advance.clock.search = s.clock.search.map fun k => k + 1) ∧
      s.advance.engine.running = s.elapse.engine.running := by
  unfold State.advance
  dsimp only
  split <;> exact ⟨rfl, rfl, rfl⟩

theorem State.advance_settings (s : State) :
    s.advance.clock.timescale = s.clock.timescale + 1 ∧ s.advance.clock.monitor = s.clock.monitor ∧
      s.advance.clock.syncMode = s.clock.syncMode ∧ s.advance.clock.preset = s.clock.preset := by
  rw [s.advance_eq.1]
  exact ⟨rfl, rfl, rfl, rfl⟩

/-- The part after a load by SYNC (R6). -/
def State.syncLoaded (s : State) : State :=
  (((s.restamp s.clock.preset).elapse.setTimescale s.clock.preset).raise sourceSync causeLoaded).syncOff

theorem State.syncLoaded_counts (s : State) :
    s.syncLoaded.clock.timescale = s.clock.preset ∧ s.syncLoaded.clock.elapsed = s.clock.elapsed + 1 ∧
      (s.syncLoaded.clock.search = s.clock.search.map fun k => k + 1) ∧ s.syncLoaded.engine = s.elapse.engine :=
  ⟨rfl, rfl, rfl, rfl⟩

theorem State.syncLoaded_source (s : State) {id : Fin 20} (h : id ≠ sourceSync) : s.syncLoaded.source id = s.source id :=
  State.source_setSource_of_ne _ h _

theorem State.elapse_queue_outcomes (s : State) : s.elapse.engine.queue = s.engine.queue ∧ s.elapse.engine.outcomes = s.engine.outcomes :=
  ⟨rfl, rfl⟩

/-- The tick itself: what is due, then a step of the timescale. -/
theorem tickCounted_advance (s : State) : TickCounted s s.settleTick.advance := by
  obtain ⟨helapsed, hsearch, hrunning⟩ := s.settleTick.advance_counts
  obtain ⟨-, -, -, -, -, hqueue, houtcomes⟩ := s.settleTick.advance_kept
  exact tickCounted_of_elapse (helapsed.trans (by rw [(TickOnly.settleTick s).elapsed])) hsearch hqueue hrunning houtcomes

theorem tickCounted_syncLoaded (s : State) : TickCounted s s.settleTick.syncLoaded := by
  obtain ⟨-, helapsed, hsearch, hengine⟩ := s.settleTick.syncLoaded_counts
  obtain ⟨hqueue, houtcomes⟩ := s.settleTick.elapse_queue_outcomes
  refine tickCounted_of_elapse (helapsed.trans (by rw [(TickOnly.settleTick s).elapsed])) hsearch ?_ (by rw [hengine]) ?_
  · rw [hengine, hqueue]
  · rw [hengine, houtcomes]

theorem allOnes_iff (k : Tick) : k = BitVec.allOnes 48 ↔ k.toNat = 2 ^ 48 - 1 := by
  rw [← BitVec.toNat_inj, BitVec.toNat_allOnes]

/-- Settles O13: a tick and TIMESCALE_WRAP are `settleTick` and a step, a load touches no source of the timescale, and a SYNC load counts as
a tick does. -/
theorem tickAdvancesAndWraps : Obligations.TickAdvancesAndWraps := by
  intro s hlow counted
  have hsettle := TickOnly.settleTick s
  refine ⟨fun c hc => ?_, fun v => ?_, fun hm ha => ⟨s.settleTick.syncLoaded, (exec_syncEdge hlow hm).2 ha,
    s.settleTick.syncLoaded_counts.1.trans hsettle.preset, tickCounted_syncLoaded s,
    (s.settleTick.syncLoaded_source (by decide)).trans (hsettle.sources sourceTimescale (by decide) (by decide))⟩⟩
  · have hexec : exec c s = .next s.settleTick.advance := by
      obtain rfl | ⟨rfl, hwrap⟩ := hc
      · exact exec_coarseTick hlow
      · rw [← exec_coarseTick hlow]
        exact congrArg _ (if_pos ((allOnes_iff _).mpr hwrap))
    obtain ⟨-, hport, -⟩ := s.settleTick.advance_eq
    obtain ⟨htime, hmonitor, hmode, hpreset⟩ := s.settleTick.advance_settings
    obtain ⟨hchannels, hlisteners, -, htables, hgenerations, -⟩ := s.settleTick.advance_kept
    have hsource := hsettle.sources sourceTimescale (by decide) (by decide)
    have hwrap := s.settleTick.advance_wrap
    rw [hsource, hsettle.timescale] at hwrap
    simp only [allOnes_iff] at hwrap
    refine ⟨_, hexec, ?_, tickCounted_advance s, hwrap, hmonitor.trans hsettle.monitor, hmode.trans hsettle.syncMode, hpreset.trans hsettle.preset,
      hchannels.trans hsettle.channels, htables.trans hsettle.tables, hgenerations.trans hsettle.generations,
      hlisteners.trans hsettle.listeners, hport.trans hsettle.port⟩
    rw [htime, hsettle.timescale, BitVec.toNat_add]
    rfl
  · refine ⟨_, rfl, ?_⟩
    obtain hr | ⟨p, hr⟩ := s.runCommand_cases 6 fun t =>
      if t.anyActive then .refuse t .inUse else .taken ((t.restamp (v + 1)).setTimescale v) .ok []
    · rw [hr]
    · rw [hr]
      split <;> rfl

end Sys2Proof.Machine
end

section
/-! The command port (spec/10_command_port.md, sections 10.1, 10.2 and 10.5): frames, their bytes out, the status byte and the two resets
(O3, O4, O5, O9, O11, O12). -/

namespace Sys2Proof.Machine

open Sys2Proof.Safety

/-! ### The frame of a host command -/

theorem State.openFrame_startFrame (s : State) : s.startFrame.openFrame = s.startFrame := State.openFrame_of_opened rfl

/-- Outside an open frame a host command runs as after FRAME_START (log 4). -/
theorem State.runCommand_startFrame {s : State} (hlow : s.rstnLow = false) (hf : s.port.frame = .none ∨ s.port.frame = .executed) (k : Nat)
    (run : State → Answer) : s.runCommand k run = s.startFrame.runCommand k run := by
  have hignored : s.port.frame ≠ .ignored := by obtain h | h := hf <;> rw [h] <;> nofun
  have hopened : s.port.frame ≠ .opened := by obtain h | h := hf <;> rw [h] <;> nofun
  rw [State.runCommand_of_high hlow hignored, State.runCommand_of_high (s := s.startFrame) hlow nofun, State.openFrame_startFrame,
    State.openFrame, if_neg hopened]

/-- Settles O3: a well-formed host command is a run of the port, and the port opens the frame that it brings. -/
theorem commandBringsItsOwnFrame : Obligations.CommandBringsItsOwnFrame := by
  intro c s hc hw hlow hf
  obtain ⟨k, run, hexec, -⟩ | ⟨hill, -⟩ := hostRun_of_frame hc
  · rw [hexec, hexec, State.runCommand_startFrame hlow hf]
  · rw [hw] at hill
    cases hill

/-- The run of a host command leaves the status byte that the frame began with. -/
theorem RunEffect.statusOut {c : Instr} {s t : State} (h : RunEffect s c t) : t.port.statusOut = s.port.statusOut := by
  cases h with
  | effects h hq =>
    obtain rfl | hq := hq
    · rw [h.steady.port]
    · exact hq
  | load _ => rfl

theorem statusOut_of_exec {c : Instr} {s t : State} (hf : InFrame s) (hc : (encodeFrame c).isSome = true) (h : exec c s = .next t) :
    t.port.statusOut = s.port.statusOut := by
  obtain ⟨k, run, hexec, heffect⟩ | ⟨-, hnothing⟩ := hostRun_of_frame hc
  · rw [hexec, State.runCommand_of_inFrame hf] at h
    cases h
    exact (heffect s).statusOut
  · rw [hnothing] at h
    cases h
    rfl

/-! ### The bytes out -/

section
variable {s : State}

theorem State.byteOut_of_none (h : s.port.frame = .none) (k : Nat) : s.byteOut k = none := by rw [State.byteOut, h]

theorem State.byteOut_of_opened (h : s.port.frame = .opened) (k : Nat) : s.byteOut k = some (if k = 0 then s.port.statusOut else 0) := by
  rw [State.byteOut, h]

/-- The bytes out of an executed frame: the status byte, 0x00 for each parameter, the result code, then the response (R164). -/
theorem State.byteOut_of_executed (h : s.port.frame = .executed) :
    s.byteOut 0 = some s.port.statusOut ∧ (∀ k, 1 ≤ k → k ≤ s.port.params → s.byteOut k = some 0) ∧
      s.byteOut (s.port.params + 1) = s.port.resultOut.map ResultCode.code ∧
      ∀ j, s.byteOut (s.port.params + 2 + j) = s.port.responseByte j := by
  refine ⟨by rw [State.byteOut, h]; rfl, fun k hk hle => ?_, ?_, fun j => ?_⟩
  · rw [State.byteOut, h]
    dsimp only
    rw [if_neg (by omega), if_pos hle]
  · rw [State.byteOut, h]
    dsimp only
    rw [if_neg (by omega), if_neg (by omega), if_pos rfl]
  · rw [State.byteOut, h]
    dsimp only
    rw [if_neg (by omega), if_neg (by omega), if_neg (by omega), Nat.add_sub_cancel_left]

/-- The response while it lasts, then 0x00, or the values of a table's copy two bytes each (R164, R174). -/
theorem Port.responseByte_eq (p : Port) :
    (∀ j, j < p.response.length → p.responseByte j = p.response[j]?) ∧
    (p.burst = .none → ∀ j, p.response.length ≤ j → p.responseByte j = some 0) ∧
    ∀ copy start, p.burst = .table copy start → ∀ k e, e < 2 → p.responseByte (p.response.length + 2 * k + e) = (tableUnit copy start k)[e]? := by
  refine ⟨fun j hj => ?_, fun hb j hj => ?_, fun copy start hb k e he => ?_⟩
  · rw [Port.responseByte, List.getElem?_eq_getElem hj]
  · rw [Port.responseByte, List.getElem?_eq_none hj, hb]
  · rw [Port.responseByte, List.getElem?_eq_none (by omega), hb]
    have hdiv : (p.response.length + 2 * k + e - p.response.length) / 2 = k := by omega
    have hmod : (p.response.length + 2 * k + e - p.response.length) % 2 = e := by omega
    dsimp only
    rw [hdiv, hmod]

end

/-- Settles O5: the endings by `execFrameDiscard` and `execFrameEnd`, the bytes out of a command by the lemmas of `byteOut`. -/
theorem frameBytesAndEndings : Obligations.FrameBytesAndEndings := by
  refine ⟨fun s k hf hk => ?_, fun s hf => ?_, fun s hlow hx => ?_, fun s h => ⟨?_, State.byteOut_of_none h⟩,
    fun s h => ⟨?_, State.byteOut_of_opened h 0, fun k => State.byteOut_of_opened h (k + 1)⟩, fun c bytes s hf hw he => ?_⟩
  · have hhigh : ¬(s.rstnLow = true ∨ s.port.frame = .ignored) := by simp [hf.1, hf.2]
    simp only [exec, execFrameDiscard, if_neg hhigh, if_neg (Nat.ne_of_gt hk), State.openFrame_of_opened hf.2, decide_eq_true hk, Bool.or_true]
  · have hhigh : ¬(s.rstnLow = true ∨ s.port.frame = .ignored) := by simp [hf.1, hf.2]
    simp [exec, execFrameDiscard, if_neg hhigh]
  · have hignored : s.port.frame ≠ .ignored := by rw [hx]; nofun
    simp only [exec, execFrameEnd, if_neg hignored]
    rw [if_pos ⟨hlow, hx⟩]
  · simp [State.drivesSdo, h]
  · simp [State.drivesSdo, h]
  · obtain ⟨run, hexec⟩ := exec_hostCommand hw he s
    have hstatus := statusOut_of_exec hf (by rw [he]; rfl) hexec
    rw [State.runCommand_of_inFrame hf] at hexec hstatus
    generalize ht : answered (bytes.length - 1) (run s).state (run s).code (run s).response (run s).burst = t at hexec hstatus
    have hframe : t.port.frame = .executed := by rw [← ht]; rfl
    have hparams : t.port.params = bytes.length - 1 := by rw [← ht]; rfl
    have hcode : t.port.resultOut = some (run s).code := by rw [← ht]; rfl
    have hlen : 0 < bytes.length := List.length_pos_iff.mpr fun hnil => by
      cases c <;> simp [encodeFrame, hnil] at he
    obtain ⟨hfirst, hzeros, hresult, hresponse⟩ := State.byteOut_of_executed hframe
    obtain ⟨hbytes, hafter, htable⟩ := t.port.responseByte_eq
    rw [hparams, Nat.sub_add_cancel hlen] at hresult
    have hat (j : Nat) : t.byteOut (bytes.length + 1 + j) = t.port.responseByte j := by
      rw [← hresponse j, hparams, show bytes.length - 1 + 2 + j = bytes.length + 1 + j by omega]
    refine ⟨t, hexec, by simp [State.drivesSdo, hframe], hfirst.trans (by rw [hstatus]), fun k hk hlt => hzeros k hk (by omega),
      ⟨_, hcode, by rw [hresult, hcode]; rfl⟩, fun j hj => (hat j).trans (hbytes j hj), fun hb j hj => (hat j).trans (hafter hb j hj),
      fun copy start hb k e he => ?_⟩
    rw [show bytes.length + 1 + t.port.response.length + 2 * k + e = bytes.length + 1 + (t.port.response.length + 2 * k + e) by omega, hat]
    exact htable copy start hb k e he

/-! ### The status byte -/

/-- ATTN is asserted while a source signals (R156). -/
theorem attn_iff {s : State} (hlow : s.rstnLow = false) :
    s.attn = true ↔ ∃ id, s.outstanding id ≠ 0 ∧ s.attention.threshold ≤ (s.source id).priority := by
  simp [State.attn, State.signalling, hlow]

theorem calActive_iff (e : Engine) : e.calActive = true ↔ e.queue ≠ [] ∨ e.running ≠ none := by
  simp [Engine.calActive, Option.isSome_iff_ne_none]

theorem busy_iff (q : Quotient) : q.busy = true ↔ q.queue ≠ [] ∨ q.work ≠ none := by
  simp [Quotient.busy, Option.isSome_iff_ne_none]

/-- ANY_FRESH tells of some context (R170). -/
theorem anyFresh_iff (s : State) : s.anyFresh = true ↔ ∃ n, (s.ctx n).record.fresh = true := by
  simp only [State.anyFresh, List.any_eq_true, Vector.mem_toList_iff, Vector.mem_iff_getElem, State.ctx]
  constructor
  · rintro ⟨c, ⟨i, hi, rfl⟩, h⟩
    exact ⟨⟨i, hi⟩, h⟩
  · rintro ⟨n, h⟩
    exact ⟨_, ⟨n.val, n.isLt, rfl⟩, h⟩

/-- Settles O4: FRAME_START forms the model's status byte, whose places `statusByte_getLsbD` gives. -/
theorem frameStartFormsStatusByte : Obligations.FrameStartFormsStatusByte := by
  intro s hlow hf
  have hopens : ¬(s.port.frame = .opened ∨ s.port.frame = .ignored) := by obtain h | h := hf <;> simp [h]
  have hhigh : ¬s.rstnLow = true := Bool.eq_false_iff.mp hlow
  refine ⟨s.statusByte, ?_, ?_, ?_, ?_, s.statusByte_locked, ?_, ?_, ?_, ?_⟩
  · simp only [exec, execFrameStart, if_neg hopens, if_neg hhigh]
    rfl
  · rw [State.statusByte_getLsbD]
    simp
  · rw [State.statusByte_getLsbD, ← attn_iff hlow]
    simp
  · rw [State.statusByte_getLsbD, ← calActive_iff]
    simp
  · rw [State.statusByte_getLsbD]
    simp
  · rw [State.statusByte_getLsbD]
    simp
  · rw [State.statusByte_getLsbD, ← anyFresh_iff]
    simp
  · rw [State.statusByte_getLsbD, ← busy_iff]
    simp

/-- Settles O9: each command looks its object up before anything else. -/
theorem indexOutOfSetAnswersRange : Obligations.IndexOutOfSetAnswersRange := by
  intro s k hf
  refine ⟨fun h => ?_, fun h => ?_, fun h p m => ?_⟩
  · have hnone : indexOf 8 k = none := indexOf_of_le h
    refine ⟨fun e p h => ?_, ?_, ?_, fun r => ?_⟩
    · simp only [exec, execConfigureChannel, State.runCommand_of_inFrame hf, hnone]; rfl
    · simp only [exec, execReadChannel, State.runCommand_of_inFrame hf, hnone]; rfl
    · simp only [exec, execReadCalibration, State.runCommand_of_inFrame hf, hnone]; rfl
    · simp only [exec, execReadTable, State.runCommand_of_inFrame hf, hnone]; rfl
  · have hnone : indexOf 16 k = none := indexOf_of_le h
    refine ⟨fun b => ?_, fun sel v => ?_, fun t => ?_, ?_, ?_, ?_, ?_, ?_, ?_⟩
    · simp only [exec, execDefineContext, State.runCommand_of_inFrame hf, hnone]; rfl
    · simp only [exec, execModifyContext, State.runCommand_of_inFrame hf, hnone]; rfl
    · simp only [exec, execArm, State.runCommand_of_inFrame hf, hnone]; rfl
    · simp only [exec, execAbort, State.runCommand_of_inFrame hf, hnone]; rfl
    · simp only [exec, execCloseGate, State.runCommand_of_inFrame hf, hnone]; rfl
    · simp only [exec, execRetire, State.runCommand_of_inFrame hf, hnone]; rfl
    · simp only [exec, execReadResult, State.runCommand_of_inFrame hf, hnone]; rfl
    · simp only [exec, execReadLive, State.runCommand_of_inFrame hf, hnone]; rfl
    · simp only [exec, execReadContext, State.runCommand_of_inFrame hf, hnone]; rfl
  · have hnone : indexOf 20 k = none := indexOf_of_le h
    simp only [exec, execSetPriority, State.runCommand_of_inFrame hf, hnone]; rfl

/-! ### The resets -/

/-- The attention controller after a reset asserts nothing: every priority is 0 and the threshold 1 (R163). -/
theorem attn_of_reset {s : State} (h : s.attention = Attention.reset) : s.attn = false := by
  have hsignal (id : Fin 20) : s.signalling id = false := by
    simp [State.signalling, State.source, h, Attention.reset]
  simp [State.attn, hsignal]

theorem source_of_reset {s : State} (h : s.attention = Attention.reset) (id : Fin 20) : s.source id = ⟨0, causesOf id, 0⟩ := by
  simp [State.source, h, Attention.reset]

theorem channel_of_reset {s : State} (h : s.channels = Vector.replicate 8 Channel.reset) (c : Fin 8) :
    s.channel c = ⟨false, .rise, 0, 0, 0, none, none, []⟩ := by
  simp [State.channel, h, Channel.reset]

theorem listenersOf_of_reset {s : State} (h : s.listeners = Vector.replicate 8 []) (c : Fin 8) : s.listenersOf c = [] := by
  simp [State.listenersOf, h]

theorem ctx_of_reset {s : State} (h : s.contexts = Vector.replicate 16 Context.free) (n : Fin 16) : s.ctx n = Context.free := by
  simp [State.ctx, h]

theorem anyFresh_of_reset {s : State} (h : s.contexts = Vector.replicate 16 Context.free) : s.anyFresh = false := by
  rw [← Bool.not_eq_true, anyFresh_iff]
  rintro ⟨n, hn⟩
  rw [ctx_of_reset h] at hn
  cases hn

/-- The outcomes after SOFT RESET: that of the abandoned calibration is ABORTED (R52; log 15). -/
theorem Engine.softReset_outcomes (e : Engine) :
    (e.running = none → e.softReset.outcomes = e.outcomes) ∧
    ∀ r, e.running = some r → e.softReset.outcomes[r.channel] = ⟨some r.kind, .aborted, 0⟩ ∧
      ∀ d, d ≠ r.channel → e.softReset.outcomes[d] = e.outcomes[d] := by
  unfold Engine.softReset
  refine ⟨fun h => by rw [h], fun r h => ?_⟩
  rw [h]
  refine ⟨by simp [Engine.setOutcome], fun d hd => ?_⟩
  have : r.channel.val ≠ d.val := fun he => hd (Fin.ext he.symm)
  simp [Engine.setOutcome, this]

theorem Engine.softReset_generations (e : Engine) : e.softReset.generations = e.generations ∧ e.softReset.driftLimit = e.driftLimit := by
  unfold Engine.softReset
  cases e.running <;> exact ⟨rfl, rfl⟩

/-- Settles O11: the executed SOFT RESET is the model's `softReset`, answered; its blocks one by one. -/
theorem softResetSetsEveryBlock : Obligations.SoftResetSetsEveryBlock := by
  intro s hf hinit
  have hexec : exec .softReset s = .next (answered 0 s.softReset .ok [] .none) := by
    simp only [exec, execSoftReset, State.runCommand_of_inFrame hf, hinit]
    rfl
  generalize ht : answered 0 s.softReset .ok [] .none = t at hexec
  have hengine : t.engine = s.engine.softReset := by rw [← ht]; rfl
  have hchannels : t.channels = Vector.replicate 8 Channel.reset := by rw [← ht]; rfl
  have hlist : t.listeners = Vector.replicate 8 [] := by rw [← ht]; rfl
  have hctx : t.contexts = Vector.replicate 16 Context.free := by rw [← ht]; rfl
  have hatt : t.attention = Attention.reset := by rw [← ht]; rfl
  have hclock : t.clock = { s.clock with syncMode := .off, preset := 0 } := by rw [← ht]; rfl
  have hquot : t.quotient = ⟨[], none⟩ := by rw [← ht]; rfl
  have hport : t.port = { s.port with
      frame := .executed, frameErr := false, lastRefused := false, params := 0, resultOut := some .ok, response := [], burst := .none } := by
    rw [← ht]; rfl
  obtain ⟨htables, hrunning, hqueue, hkept⟩ := s.engine.softReset_kept
  obtain ⟨hgenerations, hdrift⟩ := s.engine.softReset_generations
  obtain ⟨hidle, haborted⟩ := s.engine.softReset_outcomes
  have hphase (c : Fin 8) : t.engine.phase c = .none := by
    rw [hengine]
    exact Engine.phase_none_of_idle hrunning (by rw [hqueue]; nofun)
  refine ⟨t, hexec, hclock, fun c => ⟨channel_of_reset hchannels c, hphase c, listenersOf_of_reset hlist c⟩, by rw [hengine, hqueue],
    by rw [hengine, hrunning], by rw [hengine, htables], by rw [hengine, hgenerations], by rw [hengine, hdrift],
    by rw [hengine, hkept, hinit], by rw [hengine]; exact hidle, by rw [hengine]; exact haborted, ctx_of_reset hctx, hquot,
    source_of_reset hatt, by rw [hatt]; rfl, attn_of_reset hatt, hport, fun k => ?_, by rw [← ht]; rfl, by rw [← ht]; rfl, by rw [← ht]; exact hf.1⟩
  have hcal : t.engine.calActive = false := by simp [Engine.calActive, hengine, hrunning, hqueue]
  have hlocked : t.locked = true ↔ s.clock.monitor = .locked := by rw [State.locked_iff, hclock]
  rw [State.statusByte_getLsbD, hcal, anyFresh_of_reset hctx, attn_of_reset hatt, hport, hquot, hengine, hkept, hinit, hlocked]
  simp [Quotient.busy]

/-- The entries of the nominal table (R35). -/
theorem toNat_nominalTable (r : Fin 256) : nominalTable[r].toNat = min 4095 (18 * r.val + 9) := by
  have hlt : min 4095 (18 * r.val + 9) < 2 ^ 12 := by omega
  simp only [nominalTable, Fin.getElem_fin, Vector.getElem_ofFn, BitVec.toNat_ofNat, Nat.mod_eq_of_lt hlt]

/-- With RSTN low the commands, the snapshot, ticks, edges, SYNC and lock events do nothing (R176; log 18). -/
theorem exec_of_low {s : State} {c : Instr} (h : s.rstnLow = true)
    (hc : (encodeFrame c).isSome = true ∨ c = .resultRecordSnapshot ∨ c = .coarseTick ∨ c = .timescaleWrap ∨ c = .syncEdge ∨
      c = .lockAchieved ∨ c = .lockLost ∨ ∃ p e r b, c = .inputEdge p e r b) : exec c s = .next s := by
  have htick : s.tick = s := if_pos h
  obtain hc | rfl | rfl | rfl | rfl | rfl | rfl | ⟨p, e, r, b, rfl⟩ := hc
  · obtain ⟨k, run, hexec, -⟩ | ⟨-, hnothing⟩ := hostRun_of_frame hc
    · rw [hexec, State.runCommand_of_low h]
    · exact hnothing s
  · exact congrArg _ (if_pos h)
  · exact congrArg _ htick
  · simp only [exec, execTimescaleWrap, htick, ite_self]
  · exact congrArg _ (if_pos (.inl h))
  · exact congrArg _ (if_pos h)
  · exact congrArg _ (if_pos h)
  · have hnone : s.takesEdges p = false := by simp [State.takesEdges, h]
    simp only [exec, execInputEdge, hnone, Bool.false_and, Bool.false_eq_true, if_false]

/-- Settles O12: the reset state's blocks, then what RSTN low and a frame not taken hold back. -/
theorem powerOnResetValues : Obligations.PowerOnResetValues := by
  refine ⟨fun s => ⟨_, rfl, ?_⟩, fun _ => rfl, fun _ _ => exec_of_low, fun s hlow hnone => ?_, fun s hign => ⟨?_, fun c hc => ?_, fun k => ?_, ?_⟩⟩
  · refine ⟨rfl, rfl, rfl, rfl, rfl, rfl, fun c => ⟨channel_of_reset rfl c, listenersOf_of_reset rfl c⟩, rfl, fun c r => ?_, fun c => ?_,
      fun r => ?_, rfl, rfl, rfl, rfl, ctx_of_reset rfl, rfl, source_of_reset rfl, rfl, rfl, fun h => ?_, fun h => ?_, ?_, rfl, rfl, fun n => ?_, rfl⟩
    · have htable : State.reset.engine.tables[c] = nominalTable := by simp [State.reset, Engine.reset]
      rw [show (_ : FineTable) = nominalTable from htable]
      exact toNat_nominalTable r
    · simp [State.reset, Engine.reset]
    · simp [State.reset, Engine.reset]
    · rw [h]
      rfl
    · cases hframe : s.port.frame <;> first | rfl | exact absurd hframe h
    · cases s.port.frame <;> rfl
    · simp [State.reset]
  · have hopens : ¬(s.port.frame = .opened ∨ s.port.frame = .ignored) := by simp [hnone]
    simp only [exec, execFrameStart, if_neg hopens, if_pos hlow, State.setFrame]
  · exact congrArg _ (if_pos (.inr hign))
  · obtain ⟨k, run, hexec, -⟩ | ⟨-, hnothing⟩ := hostRun_of_frame hc
    · rw [hexec, State.runCommand_of_ignored hign]
    · exact hnothing s
  · exact congrArg _ (if_pos (.inr hign))
  · exact congrArg _ (if_pos hign)

end Sys2Proof.Machine
end

section
/-! The input channels (spec/02_input_channels.md): reading back, and what an edge on a pin does (O21, O22, O23). -/

namespace Sys2Proof.Machine

open Sys2Proof.Safety

/-! ### Reading back -/

theorem Sense.takes_rise_iff (e : EdgeSense) : Sense.rise.takes e = true ↔ e = .rise := by cases e <;> simp [Sense.takes]

theorem Sense.takes_fall_iff (e : EdgeSense) : Sense.fall.takes e = true ↔ e = .fall := by cases e <;> simp [Sense.takes]

@[simp] theorem Sense.takes_any (e : EdgeSense) : Sense.any.takes e = true := by cases e <;> rfl

theorem Channel.sample_any (x : Channel) (k : Nat) :
    (x.sample k .any).toNat = ((x.sample k .rise).toNat + (x.sample k .fall).toNat) % 2 ^ 48 :=
  BitVec.toNat_add ..

theorem exec_readChannel {s : State} {k : Byte} {c : Fin 8} (hs : InFrame s) (hk : indexOf 8 k = some c) :
    exec (.readChannel k) s = .next (takenWith 1 s (s.channelBytes c)) := by
  simp only [exec, execReadChannel, State.runCommand_of_inFrame hs, hk, Answer.taken, takenWith]

/-- Settles O21: the samples by their definition, the bytes by `channelBytes`, each code by its table. -/
theorem readChannelReturns : Obligations.ReadChannelReturns := by
  refine ⟨fun x k => ⟨rfl, rfl, x.sample_any k⟩, fun e => ⟨Sense.takes_rise_iff e, Sense.takes_fall_iff e, Sense.takes_any e⟩,
    fun s k c hs hk => ⟨onOffCode (s.channel c).enable, polarityCode (s.channel c).polarity, phaseCode (s.engine.phase c),
      exec_readChannel hs (indexOf_of_eq hk), rfl, ?_⟩⟩
  exact ⟨congrArg polarityCode, congrArg polarityCode, congrArg polarityCode, congrArg phaseCode, congrArg phaseCode,
    congrArg phaseCode, congrArg phaseCode, congrArg phaseCode⟩

/-! ### The two filters -/

/-- The holdoff rejects an edge exactly when it is not 0 and the last accepted edge lies no further back (R21). -/
theorem Channel.holdsOff_iff (x : Channel) (tick : Nat) :
    x.holdsOff tick = true ↔ 0 < x.holdoff.toNat ∧ ∃ last, x.lastAccepted = some last ∧ tick ≤ last + x.holdoff.toNat := by
  have hH : x.holdoff.toNat < 4096 := x.holdoff.isLt
  unfold Channel.holdsOff Channel.holdoffHistory
  cases x.lastAccepted with
  | none => simp
  | some last =>
    simp only [Option.map_some, Bool.and_eq_true, decide_eq_true_eq, Option.some.injEq, exists_eq_left']
    omega

theorem Polarity.admits_iff (p : Polarity) (e : EdgeSense) :
    p.admits e = true ↔ p = .both ∨ (p = .rise ∧ e = .rise) ∨ (p = .fall ∧ e = .fall) := by
  cases p <;> cases e <;> simp [Polarity.admits]

theorem State.takesEdges_iff (s : State) (c : Fin 8) :
    s.takesEdges c = true ↔ s.rstnLow = false ∧ (s.channel c).enable = true ∧ s.engine.phase c ≠ .longRun := by
  simp [State.takesEdges, and_assoc]

theorem exec_inputEdge_rejected {s : State} {c : Fin 8} {sense : EdgeSense} (raw : Byte) (before : BitVec 12)
    (h : ¬(s.takesEdges c = true ∧ (s.channel c).accepts sense (s.clock.elapsed + 1) = true)) :
    exec (.inputEdge c sense raw before) s = .next s := by
  rw [← Bool.and_eq_true] at h
  simp only [exec, execInputEdge, if_neg h]

/-- Settles O22: each of the lines shuts one of the two filters. -/
theorem rejectedEdgesLeaveNoTrace : Obligations.RejectedEdgesLeaveNoTrace := by
  intro s c sense raw before h
  refine exec_inputEdge_rejected raw before ?_
  rw [State.takesEdges_iff, Channel.accepts, Bool.and_eq_true, Polarity.admits_iff, Bool.not_eq_true']
  rintro ⟨⟨-, henable, hphase⟩, hadmits, hholds⟩
  rw [← Bool.not_eq_true, Channel.holdsOff_iff] at hholds
  obtain h | h | ⟨hp, hsense⟩ | ⟨hp, hsense⟩ | h := h
  · exact absurd (henable.symm.trans h) nofun
  · exact hphase h
  · simp [hp, hsense] at hadmits
  · simp [hp, hsense] at hadmits
  · exact hholds h

/-! ### An accepted edge -/

theorem Channel.stamps_iff (x : Channel) (time : Nat) :
    x.stamps time = true ↔ ∀ last, x.lastStamped = some last → last + 8192 < time := by
  unfold Channel.stamps
  cases x.lastStamped with
  | none => simp
  | some last =>
    simp only [Option.some.injEq, forall_eq']
    exact decide_eq_true_iff

theorem State.mem_recipientsOf (s : State) (c : Fin 8) (n : Fin 16) : n ∈ s.recipientsOf c ↔ ∃ r, (n, r) ∈ s.listenersOf c := by
  simp only [State.recipientsOf, List.mem_filter, List.mem_finRange, true_and, List.any_eq_true, decide_eq_true_eq]
  exact ⟨fun ⟨⟨m, r⟩, h, hm⟩ => ⟨r, hm ▸ h⟩, fun ⟨r, h⟩ => ⟨(n, r), h, rfl⟩⟩

/-- What a stamped edge makes of the engine: a hit of the short calibration that runs on its channel (R45). -/
def Engine.edgeHit (e : Engine) (c : Fin 8) (raw : Byte) : Engine :=
  match e.running with
  | none => e
  | some r => if r.channel = c ∧ r.kind = .short ∧ r.hits < Config.shortHits then e.hit r raw else e

theorem State.shortHit_eq (s : State) (c : Fin 8) (raw : Byte) : s.shortHit c raw = s.setEngine (s.engine.edgeHit c raw) := by
  unfold State.shortHit Engine.edgeHit
  cases hr : s.engine.running with
  | none => rfl
  | some r =>
    dsimp only
    split_ifs <;> rfl

theorem Engine.edgeHit_of_hit {e : Engine} {c : Fin 8} {r : Running} (raw : Byte) (hr : e.running = some r)
    (h : r.channel = c ∧ r.kind = .short ∧ r.hits < 8192) : e.edgeHit c raw = e.hit r raw := by
  unfold Engine.edgeHit
  rw [hr]
  exact if_pos h

theorem Engine.edgeHit_of_none {e : Engine} {c : Fin 8} (raw : Byte)
    (h : ∀ r, e.running = some r → ¬(r.channel = c ∧ r.kind = .short ∧ r.hits < 8192)) : e.edgeHit c raw = e := by
  unfold Engine.edgeHit
  cases hr : e.running with
  | none => rfl
  | some r => exact if_neg (h r hr)

theorem State.emit_eq (s : State) (i : BusItem) :
    s.emit i = { s with
      bus := if s.recipientsOf i.channel = [] then s.bus else s.bus ++ [{ i with recipients := s.recipientsOf i.channel }] } := by
  unfold State.emit
  simp only [List.isEmpty_iff]
  split <;> rfl

/-- The message content of an edge accepted at an edge tick (R9, R25, R26). -/
def State.edgeInfo (s : State) (c : Fin 8) (sense : EdgeSense) (raw : Byte) (edgeTick : Nat) : StampInfo :=
  ⟨fineOf s.engine.tables[c] raw, ((s.channel c).countEdge sense edgeTick).counter sense, s.engine.generations[c], !s.locked⟩

/-- The item of an edge accepted at an edge tick and a time, stamped with `stamped`. -/
def State.edgeItem (s : State) (c : Fin 8) (sense : EdgeSense) (stamped : Option StampInfo) (edgeTick time : Nat) : BusItem :=
  ⟨c, sense, s.clock.timescale + 1, stamped, edgeTick, time, s.recipientsOf c⟩

/-- The part after an accepted edge that leaves its channel's record `x` and the engine `e`. -/
def State.edgeTaken (s : State) (c : Fin 8) (x : Channel) (e : Engine) (i : BusItem) : State :=
  { s with channels := s.channels.set c x, engine := e, bus := if s.recipientsOf c = [] then s.bus else s.bus ++ [i] }

theorem State.acceptEdge_stamped {s : State} {c : Fin 8} {time : Nat} (h : (s.channel c).stamps time = true) (sense : EdgeSense)
    (raw : Byte) (edgeTick : Nat) :
    s.acceptEdge c sense raw edgeTick time =
      s.edgeTaken c { (s.channel c).countEdge sense edgeTick with lastStamped := some time } (s.engine.edgeHit c raw)
        (s.edgeItem c sense (some (s.edgeInfo c sense raw edgeTick)) edgeTick time) := by
  rw [State.acceptEdge, if_pos h]
  dsimp only
  rw [State.shortHit_eq, State.emit_eq, State.convert, State.channel_setChannel_self]
  cases sense <;> rfl

theorem State.acceptEdge_unstamped {s : State} {c : Fin 8} {time : Nat} (h : (s.channel c).stamps time = false) (sense : EdgeSense)
    (raw : Byte) (edgeTick : Nat) :
    s.acceptEdge c sense raw edgeTick time =
      s.edgeTaken c ((s.channel c).countEdge sense edgeTick) s.engine (s.edgeItem c sense none edgeTick time) := by
  rw [State.acceptEdge, if_neg (by simp [h]), State.emit_eq]
  rfl

theorem State.edgeTaken_channel_self (s : State) (c : Fin 8) (x : Channel) (e : Engine) (i : BusItem) :
    (s.edgeTaken c x e i).channel c = x :=
  s.channel_setChannel_self c x

theorem State.edgeTaken_channel_of_ne {s : State} {c d : Fin 8} (h : d ≠ c) (x : Channel) (e : Engine) (i : BusItem) :
    (s.edgeTaken c x e i).channel d = s.channel d :=
  s.channel_setChannel_of_ne h x

theorem State.edgeTaken_bus (s : State) (c : Fin 8) (x : Channel) (e : Engine) (i : BusItem) :
    (s.recipientsOf c = [] → (s.edgeTaken c x e i).bus = s.bus) ∧ (s.recipientsOf c ≠ [] → (s.edgeTaken c x e i).bus = s.bus ++ [i]) :=
  ⟨fun h => if_pos h, fun h => if_neg h⟩

theorem Channel.countEdge_counter (x : Channel) (sense : EdgeSense) (k : Nat) :
    (x.countEdge sense k).counter sense = if sense = .rise then (x.countEdge sense k).rising else (x.countEdge sense k).falling := by
  cases sense <;> rfl

theorem exec_inputEdge_accepted {s : State} {c : Fin 8} {sense : EdgeSense} (raw : Byte) (before : BitVec 12) (hlow : s.rstnLow = false)
    (henable : (s.channel c).enable = true) (hphase : s.engine.phase c ≠ .longRun) (hadmits : (s.channel c).polarity.admits sense = true)
    (hholds : (s.channel c).holdsOff (s.clock.elapsed + 1) = false) :
    exec (.inputEdge c sense raw before) s =
      .next (s.acceptEdge c sense raw (s.clock.elapsed + 1) (4096 * (s.clock.elapsed + 1) - before.toNat)) := by
  have htakes : s.takesEdges c = true := (s.takesEdges_iff c).mpr ⟨hlow, henable, hphase⟩
  simp only [exec, execInputEdge, htakes, Channel.accepts, hadmits, hholds, Bool.not_false, Bool.and_self, if_true]

/-- Settles O23: the edge passes both filters; whether it lies outside the stamp-blind time decides between message and notice. -/
theorem acceptedEdgesAreCountedAndSent : Obligations.AcceptedEdgesAreCountedAndSent := by
  intro s c sense raw before hlow henable hphase hadmits hholds
  have hfree : (s.channel c).holdsOff (s.clock.elapsed + 1) = false := by
    rw [← Bool.not_eq_true, Channel.holdsOff_iff]
    rintro ⟨hpos, last, hlast, hle⟩
    obtain h | h := hholds
    · omega
    · exact absurd (h last hlast) (by omega)
  have hexec := exec_inputEdge_accepted raw before hlow henable hphase ((Polarity.admits_iff _ _).mpr hadmits) hfree
  generalize 4096 * (s.clock.elapsed + 1) - before.toNat = time at hexec ⊢
  have hstamps := (s.channel c).stamps_iff time
  cases hst : (s.channel c).stamps time with
  | true =>
    rw [State.acceptEdge_stamped hst] at hexec
    refine ⟨_, s.edgeItem c sense (some (s.edgeInfo c sense raw (s.clock.elapsed + 1))) (s.clock.elapsed + 1) time, hexec, rfl,
      fun d hd => State.edgeTaken_channel_of_ne hd _ _ _, ?_⟩
    simp only [State.edgeTaken_channel_self]
    refine ⟨rfl, rfl, rfl, rfl, henable, rfl, rfl, s.edgeTaken_bus c _ _ _, rfl, rfl, rfl, rfl, rfl, rfl, s.mem_recipientsOf c,
      fun _ => ⟨rfl, ?_, fun r hr hc hk hh => Engine.edgeHit_of_hit raw hr ⟨hc, hk, hh⟩, Engine.edgeHit_of_none raw⟩,
      fun ⟨last, hlast, hle⟩ => ?_⟩
    · simp only [State.edgeItem, State.edgeInfo, Channel.countEdge_counter, State.locked, fineOf, decide_not]
    · exact absurd (hstamps.mp hst last hlast) (Nat.not_lt.mpr hle)
  | false =>
    rw [State.acceptEdge_unstamped hst] at hexec
    refine ⟨_, s.edgeItem c sense none (s.clock.elapsed + 1) time, hexec, rfl,
      fun d hd => State.edgeTaken_channel_of_ne hd _ _ _, ?_⟩
    simp only [State.edgeTaken_channel_self]
    refine ⟨rfl, rfl, rfl, rfl, henable, rfl, rfl, s.edgeTaken_bus c _ _ _, rfl, rfl, rfl, rfl, rfl, rfl, s.mem_recipientsOf c,
      fun h => ?_, fun _ => ⟨rfl, rfl, rfl⟩⟩
    exact absurd (hstamps.mpr h) (by simp [hst])

end Sys2Proof.Machine
end

section
/-! The calibration engine (spec/03_interpolator_calibration.md): phase and read-back, ABORT CALIBRATION, and the engine's own events (O24,
O26, O27, O30). -/

namespace Sys2Proof.Machine

open Sys2Proof.Safety

/-! ### The phase and the read-back -/

section
variable (e : Engine) (c : Fin 8)

theorem Engine.phase_eq_longRun_iff : e.phase c = .longRun ↔ e.runs c .long = true := by
  unfold Engine.phase
  split_ifs with h1 h2 h3 h4 <;> simp_all

theorem Engine.phase_eq_longWait_iff : e.phase c = .longWait ↔ ¬e.runs c .long = true ∧ e.queued c .long = true := by
  unfold Engine.phase
  split_ifs with h1 h2 h3 h4 <;> simp_all

theorem Engine.phase_eq_shortRun_iff :
    e.phase c = .shortRun ↔ ¬e.runs c .long = true ∧ ¬e.queued c .long = true ∧ e.runs c .short = true := by
  unfold Engine.phase
  split_ifs with h1 h2 h3 h4 <;> simp_all

theorem Engine.phase_eq_shortWait_iff :
    e.phase c = .shortWait ↔
      ¬e.runs c .long = true ∧ ¬e.queued c .long = true ∧ ¬e.runs c .short = true ∧ e.queued c .short = true := by
  unfold Engine.phase
  split_ifs with h1 h2 h3 h4 <;> simp_all

/-- A channel the engine has nothing of is in no phase (R37). -/
theorem Engine.phase_eq_none {e : Engine} {c : Fin 8} (hrun : ∀ r, e.running = some r → r.channel ≠ c)
    (hqueue : ∀ x ∈ e.queue, x.channel ≠ c) : e.phase c = .none := by
  have hruns (k : CalKind) : ¬e.runs c k = true := fun h =>
    have ⟨r, hr, hc, _⟩ := (e.runs_iff c k).mp h
    hrun r hr hc
  have hqueued (k : CalKind) : ¬e.queued c k = true := fun h => hqueue _ ((e.queued_iff c k).mp h) rfl
  rw [Engine.phase, if_neg (hruns _), if_neg (hqueued _), if_neg (hruns _), if_neg (hqueued _)]

theorem Engine.hitsOn_of_running {e : Engine} {c : Fin 8} {r : Running} (h : e.running = some r) (hc : r.channel = c) :
    e.hitsOn c = r.hits := by
  rw [Engine.hitsOn, h]
  exact if_pos hc

theorem Engine.hitsOn_of_not_running {e : Engine} {c : Fin 8} (h : ∀ r, e.running = some r → r.channel ≠ c) : e.hitsOn c = 0 := by
  unfold Engine.hitsOn
  cases hr : e.running with
  | none => rfl
  | some r => exact if_neg (h r hr)

end

theorem queuePosition_eq_zero_iff (c : Fin 8) (l : List CalEntry) : queuePosition c l = 0 ↔ ∀ x ∈ l, x.channel ≠ c := by
  induction l with
  | nil => simp [queuePosition]
  | cons x rest ih =>
    rw [queuePosition, List.forall_mem_cons, ← ih]
    split_ifs with h
    · simp [h]
    · cases queuePosition c rest <;> simp [h]

/-- The position reported is that of the channel's first entry (R55). -/
theorem queuePosition_eq_succ {c : Fin 8} {l : List CalEntry} {j : Nat} (h : queuePosition c l = j + 1) :
    (∃ x, l[j]? = some x ∧ x.channel = c) ∧ ∀ m x, m < j → l[m]? = some x → x.channel ≠ c := by
  induction l generalizing j with
  | nil => exact absurd h nofun
  | cons y rest ih =>
    rw [queuePosition] at h
    split_ifs at h with hy
    · obtain rfl : j = 0 := by omega
      exact ⟨⟨y, rfl, hy⟩, fun m x hm => absurd hm (Nat.not_lt_zero m)⟩
    · cases hq : queuePosition c rest with
      | zero => simp [hq] at h
      | succ k =>
        simp only [hq] at h
        obtain rfl : k + 1 = j := by omega
        obtain ⟨hfound, hbefore⟩ := ih hq
        refine ⟨hfound, fun m x hm hx => ?_⟩
        cases m with
        | zero =>
          cases hx
          exact hy
        | succ m => exact hbefore m x (by omega) hx

theorem tableUnit_eq (copy : FineTable) (start : Byte) (k : Nat) (r : Fin 256) (h : r.val = (start.toNat + k) % 256) :
    tableUnit copy start k = bytesOf 2 copy[r].toNat := by
  have hr : (start + BitVec.ofNat 8 k).toFin = r := Fin.ext (by rw [h, BitVec.val_toFin, BitVec.toNat_add, BitVec.toNat_ofNat]; omega)
  simp only [tableUnit, fineOf, hr]

section
variable {s : State} {k : Byte} {c : Fin 8}

theorem exec_readCalibration_of_range (hs : InFrame s) (hk : indexOf 8 k = none) :
    exec (.readCalibration k) s = .next (refusedWith 1 s .range) := by
  simp only [exec, execReadCalibration, State.runCommand_of_inFrame hs, hk, Answer.refuse, refusedWith]

theorem exec_readCalibration (hs : InFrame s) (hk : indexOf 8 k = some c) :
    exec (.readCalibration k) s = .next (takenWith 1 s (s.calibrationBytes c)) := by
  simp only [exec, execReadCalibration, State.runCommand_of_inFrame hs, hk, Answer.taken, takenWith]

theorem exec_readTable (hs : InFrame s) (hk : indexOf 8 k = some c) (start : Byte) :
    exec (.readTable k start) s = .next (answered 2 s .ok [s.engine.generations[c]] (.table s.engine.tables[c] start)) := by
  simp only [exec, execReadTable, State.runCommand_of_inFrame hs, hk]

end

/-- Settles O24: the phase by the lines of its table, the read-backs by their bytes. -/
theorem calibrationReadBack : Obligations.CalibrationReadBack := by
  refine ⟨fun s c => ?_, fun s k hs hk => exec_readCalibration_of_range hs (indexOf_of_le hk), fun s k c hs hk => ?_,
    fun s k start c hs hk => exec_readTable hs (indexOf_of_eq hk) start, tableUnit_eq⟩
  · simp only [ne_eq, Engine.phase_eq_longRun_iff, Engine.phase_eq_longWait_iff, Engine.phase_eq_shortRun_iff,
      Engine.phase_eq_shortWait_iff, ← Engine.queued_iff, ← Engine.runs_iff]
    tauto
  · refine ⟨_, lastKindCode s.engine.outcomes[c].lastKind, outcomeCode s.engine.outcomes[c].outcome, _, _,
      exec_readCalibration hs (indexOf_of_eq hk), rfl, ?_, ?_, fun r => Engine.hitsOn_of_running, Engine.hitsOn_of_not_running,
      queuePosition_eq_zero_iff c _, fun j => queuePosition_eq_succ⟩
    · cases s.engine.outcomes[c].lastKind with
      | none => rfl
      | some kind => cases kind <;> rfl
    · cases s.engine.outcomes[c].outcome <;> rfl

/-! ### ABORT CALIBRATION -/

section
variable {s : State} {c : Fin 8}

theorem State.abortChannel_of_nothing (hrun : ¬∃ r, s.engine.running = some r ∧ r.channel = c)
    (hqueue : ¬∃ x ∈ s.engine.queue, x.channel = c) : s.abortChannel c = (s, .already) := by
  have hruns (k : CalKind) : s.engine.runs c k = false :=
    Bool.eq_false_iff.mpr fun h =>
      have ⟨r, hr, hc, _⟩ := (s.engine.runs_iff c k).mp h
      hrun ⟨r, hr, hc⟩
  have hwaits : (s.engine.queue.any fun x => decide (x.channel = c)) = false := by
    simpa using hqueue
  simp only [State.abortChannel, hruns, hwaits, Bool.or_self, Bool.not_false, Bool.and_self, if_true]

/-- The engine after ABORT CALIBRATION stopped or removed something of a channel (R51). -/
def Engine.aborted (e : Engine) (c : Fin 8) : Engine :=
  { e with
    running := if e.runs c .long || e.runs c .short then none else e.running
    histogram := if e.runs c .long || e.runs c .short then Vector.replicate 256 0 else e.histogram
    queue := e.queue.filter fun x => decide (x.channel ≠ c) }.setOutcome c (if e.runs c .long || e.queued c .long then .long else .short)
    .aborted 0

theorem Engine.runs_any_iff (e : Engine) (c : Fin 8) :
    (e.runs c .long || e.runs c .short) = true ↔ ∃ r, e.running = some r ∧ r.channel = c := by
  rw [Bool.or_eq_true, Engine.runs_iff, Engine.runs_iff]
  constructor
  · rintro (⟨r, hr, hc, -⟩ | ⟨r, hr, hc, -⟩) <;> exact ⟨r, hr, hc⟩
  · rintro ⟨r, hr, hc⟩
    cases hk : r.kind with
    | long => exact .inl ⟨r, hr, hc, hk⟩
    | short => exact .inr ⟨r, hr, hc, hk⟩

theorem State.abortChannel_of_some
    (h : (∃ r, s.engine.running = some r ∧ r.channel = c) ∨ ∃ x ∈ s.engine.queue, x.channel = c) :
    s.abortChannel c =
      (if s.engine.runs c .long then (s.setEngine (s.engine.aborted c)).emptyHistories c else s.setEngine (s.engine.aborted c), .ok) := by
  have hsome : ¬(!(s.engine.runs c .long || s.engine.runs c .short) && !s.engine.queue.any fun x => decide (x.channel = c)) = true := by
    rw [← Engine.runs_any_iff] at h
    obtain h | ⟨x, hx, hc⟩ := h
    · simp [h]
    · simpa using fun _ _ => ⟨x, hx, hc⟩
  rw [State.abortChannel]
  exact if_neg hsome

theorem Engine.aborted_phase (e : Engine) (c : Fin 8) : (e.aborted c).phase c = .none := by
  refine Engine.phase_eq_none (fun r hr hc => ?_) fun x hx => ?_
  · change (if (e.runs c .long || e.runs c .short) = true then none else e.running) = some r at hr
    split_ifs at hr with hruns
    exact hruns ((e.runs_any_iff c).mpr ⟨r, hr, hc⟩)
  · simpa using (List.mem_filter.mp hx).2

theorem Engine.aborted_outcome_self (e : Engine) (c : Fin 8) :
    (e.aborted c).outcomes[c] = ⟨some (if e.runs c .long || e.queued c .long then .long else .short), .aborted, 0⟩ := by
  simp [Engine.aborted, Engine.setOutcome]

theorem Engine.aborted_outcome_of_ne (e : Engine) {c d : Fin 8} (h : d ≠ c) : (e.aborted c).outcomes[d] = e.outcomes[d] := by
  simp [Engine.aborted, Engine.setOutcome, Fin.val_inj, h.symm]

end

/-- One channel of ABORT CALIBRATION answers and leaves what R51 gives. -/
theorem State.abortChannel_abortAnswer (s : State) (c : Fin 8) : AbortAnswer s c (s.abortChannel c).2 (s.abortChannel c).1 := by
  refine ⟨fun ⟨hrun, hqueue⟩ => by rw [State.abortChannel_of_nothing hrun hqueue]; exact ⟨rfl, rfl⟩, fun h => ?_⟩
  have hruns := s.engine.runs_any_iff c
  have hlong := s.engine.runs_iff c .long
  have houtcome : (s.engine.runs c .long || s.engine.queued c .long) = true ↔
      (∃ r, s.engine.running = some r ∧ r.channel = c ∧ r.kind = .long) ∨ ⟨c, .long⟩ ∈ s.engine.queue := by
    rw [Bool.or_eq_true, Engine.runs_iff, Engine.queued_iff]
  rw [State.abortChannel_of_some h]
  have hengine : (if s.engine.runs c .long then (s.setEngine (s.engine.aborted c)).emptyHistories c
      else s.setEngine (s.engine.aborted c)).engine = s.engine.aborted c := by split <;> rfl
  dsimp only
  rw [hengine]
  refine ⟨rfl, by split <;> rfl, rfl, fun h => if_pos (hruns.mpr h), fun h => if_neg (mt hruns.mp h), rfl, rfl, rfl, rfl,
    fun d hd => s.engine.aborted_outcome_of_ne hd, fun h => ?_, fun h => ?_, fun d hd => ?_, fun h => ?_, fun h => ?_, s.engine.aborted_phase c⟩
  · rw [Engine.aborted_outcome_self, if_pos (houtcome.mpr h)]
  · rw [Engine.aborted_outcome_self, if_neg (mt houtcome.mp h)]
  · split
    · rw [State.channel_emptyHistories_of_ne _ hd]
      rfl
    · rfl
  · rw [if_pos (hlong.mpr h), State.channel_emptyHistories_self]
    rfl
  · rw [if_neg (mt hlong.mp h)]
    rfl

theorem abortCode_eq_already_iff (mask : Byte) (answers : List ResultCode) :
    abortCode mask answers = .already ↔ mask ≠ 0 ∧ ∀ c : Fin 8, mask.getLsbD c.val = true → answers[c.val]? = some .already := by
  unfold abortCode
  split_ifs with h
  · simpa [imp_iff_not_or] using h
  · simpa [imp_iff_not_or] using h

theorem abortCode_eq (mask : Byte) (answers : List ResultCode) : abortCode mask answers = .ok ∨ abortCode mask answers = .already := by
  unfold abortCode
  split_ifs
  · exact .inr rfl
  · exact .inl rfl

theorem exec_abortCalibration {s : State} (hs : InFrame s) (hinit : s.engine.init = false) (mask : Byte) :
    exec (.abortCalibration mask) s =
      .next (answered 1 (s.perChannel mask State.abortChannel).1 (abortCode mask (s.perChannel mask State.abortChannel).2)
        ((s.perChannel mask State.abortChannel).2.map ResultCode.code) .none) := by
  simp only [exec, execAbortCalibration, State.runCommand_of_inFrame hs, hinit, Bool.false_eq_true, if_false, Answer.taken]

/-- Settles O26: the channels one at a time by `abortChannel_abortAnswer`, the code by `abortCode`. -/
theorem abortCalibrationStopsEachChannel : Obligations.AbortCalibrationStopsEachChannel := fun s mask hs hinit =>
  ⟨_, _, _, exec_abortCalibration hs hinit mask, State.perChannel_channelByChannel State.abortChannel_abortAnswer mask s,
    abortCode_eq mask _, abortCode_eq_already_iff mask _⟩

/-! ### The engine's own events -/

theorem exec_calibrationStart {s : State} {x : CalEntry} {rest : List CalEntry} (hrun : s.engine.running = none)
    (hqueue : s.engine.queue = x :: rest) :
    exec .calibrationStart s = .next (s.setEngine
      { s.engine with queue := rest, histogram := Vector.replicate 256 0, running := some ⟨x.channel, x.kind, 0, 0⟩ }) := by
  simp only [exec, execCalibrationStart, hrun, hqueue]

theorem exec_ringOscillatorHit {s : State} {r : Running} (hrun : s.engine.running = some r) (hk : r.kind = .long) (raw : Byte) :
    exec (.ringOscillatorHit raw) s = .next (if r.hits < 65536 then s.setEngine (s.engine.hit r raw) else s) := by
  simp only [exec, execRingOscillatorHit, hrun, hk, true_and, Config.longHits]

theorem Engine.hit_histogram_self (e : Engine) (r : Running) (raw : Byte) :
    (e.hit r raw).histogram[raw.toFin] = e.histogram[raw.toFin] + 1 := by
  simp [Engine.hit]

theorem Engine.hit_histogram_of_ne (e : Engine) (r : Running) {raw : Byte} {k : Fin 256} (h : k ≠ raw.toFin) :
    (e.hit r raw).histogram[k] = e.histogram[k] := by
  have hne : raw.toFin.val ≠ k.val := fun heq => h (Fin.ext heq.symm)
  rw [BitVec.val_toFin] at hne
  simp [Engine.hit, hne]

/-- Settles O27: the taking by `exec_calibrationStart`, a hit by `Engine.hit`. -/
theorem calibrationStartsAndCollects : Obligations.CalibrationStartsAndCollects := by
  refine ⟨fun s x rest hrun hqueue => ⟨_, exec_calibrationStart hrun hqueue, rfl, rfl, rfl, fun r => ?_, rfl, rfl, rfl, rfl, rfl⟩,
    fun s r raw hrun hk => ⟨fun hlt => ?_, fun hle => ?_⟩⟩
  · exact Vector.getElem_replicate ..
  · refine ⟨s.setEngine (s.engine.hit r raw), by rw [exec_ringOscillatorHit hrun hk raw, if_pos hlt], rfl, rfl, s.engine.hit_histogram_self r raw,
      fun k hne => s.engine.hit_histogram_of_ne r hne, rfl, rfl, rfl, rfl, rfl, rfl⟩
  · rw [exec_ringOscillatorHit hrun hk raw, if_neg (Nat.not_lt.mpr hle)]

/-- The engine after a short calibration timed out (R46). -/
def Engine.timedOut (e : Engine) (c : Fin 8) : Engine :=
  { e with running := none, histogram := Vector.replicate 256 0 }.setOutcome c .short .timeout 0

theorem exec_shortCalibrationTimeout {s : State} {r : Running} (hrun : s.engine.running = some r) (hk : r.kind = .short)
    (hticks : r.ticks = 2500000000) (hhits : r.hits < 8192) :
    exec .shortCalibrationTimeout s = .next ((s.setEngine (s.engine.timedOut r.channel)).raise sourceCalibration causeFailed) := by
  have hdue : r.kind = .short ∧ r.ticks = Config.shortLimit ∧ r.hits < Config.shortHits := ⟨hk, hticks, hhits⟩
  simp only [exec, execShortCalibrationTimeout, State.shortTimeout, hrun, if_pos hdue, Engine.timedOut]

/-- Settles O30: the engine left by the timeout, then FAILED by the law of `raise`. -/
theorem shortCalibrationTimesOut : Obligations.ShortCalibrationTimesOut := by
  intro s r hrun hk hticks hhits
  have hidle : (s.engine.timedOut r.channel).running = none := rfl
  refine ⟨_, exec_shortCalibrationTimeout hrun hk hticks hhits, rfl, rfl, rfl, rfl, rfl, rfl, rfl, ?_, fun c hc => ?_,
    Engine.phase_longWait_of_idle hidle, Engine.phase_none_of_idle hidle, raised_ofSetEngine (State.raise_raised _ _ _)⟩
  · simp [Engine.timedOut, Engine.setOutcome]
  · simp [Engine.timedOut, Engine.setOutcome, Fin.val_inj, hc.symm]

end Sys2Proof.Machine
end

section
/-! The commands of the contexts (spec/04_measurement_contexts.md, sections 4.6 and 4.8, and spec/07_totalizing.md, section 7.4): ARM,
ABORT, RETIRE and CLOSE GATE (O34, O35, O36, O37). -/

namespace Sys2Proof.Machine

open Sys2Proof.Safety

/-! ### The checks of ARM -/

theorem serving_iff (s : State) (c : Fin 8) : Serving s c ↔ s.inService c = true := by
  rw [Serving, State.inService, Bool.and_eq_true]
  cases s.engine.phase c <;> simp [Phase.serves]

theorem Polarity.admitsSense_iff (p : Polarity) (x : Sense) :
    p.admitsSense x = true ↔ p = .both ∨ x = .any ∨ (p = .rise ∧ x = .rise) ∨ (p = .fall ∧ x = .fall) := by
  cases p <;> cases x <;> simp [Polarity.admitsSense]

/-- Every channel a context is bound to is in service (R19, R76 check 4). -/
def State.Served (s : State) (n : Fin 16) : Prop := ∀ r ∈ (s.ctx n).config.roles, Serving s r.2.1

/-- Every sense of a context is admitted by its channel's polarity (R32, R76 check 5). -/
def State.Admitted (s : State) (n : Fin 16) : Prop :=
  ∀ r ∈ (s.ctx n).config.roles,
    (s.channel r.2.1).polarity = .both ∨ r.2.2 = .any ∨ ((s.channel r.2.1).polarity = .rise ∧ r.2.2 = .rise) ∨
      ((s.channel r.2.1).polarity = .fall ∧ r.2.2 = .fall)

/-- A window's channel B takes both senses, and its sense B is one of them (R76 check 6). -/
def State.WindowFit (s : State) (n : Fin 16) : Prop :=
  (s.ctx n).config.kind = .totalize → (s.ctx n).config.gateMode = .window →
    (s.channel (s.ctx n).config.channelB).polarity = .both ∧ (s.ctx n).config.senseB ≠ .any

section
variable {s : State} {n : Fin 16}

theorem State.served_iff : s.Served n ↔ ¬((s.ctx n).config.roles.any fun r => !s.inService r.2.1) = true := by
  simp [State.Served, serving_iff]

theorem State.admitted_iff :
    s.Admitted n ↔ ¬((s.ctx n).config.roles.any fun r => !(s.channel r.2.1).polarity.admitsSense r.2.2) = true := by
  simp only [State.Admitted, ← Polarity.admitsSense_iff]
  simp

theorem State.windowFit_iff :
    s.WindowFit n ↔
      ¬((s.ctx n).config.kind = .totalize ∧ (s.ctx n).config.gateMode = .window ∧
        ((s.channel (s.ctx n).config.channelB).polarity ≠ .both ∨ (s.ctx n).config.senseB = .any)) := by
  unfold State.WindowFit
  tauto

theorem State.armRefusal_of_not_served (h : ¬s.Served n) : s.armRefusal n = some .notReady :=
  if_pos (not_not.mp (mt State.served_iff.mpr h))

theorem State.armRefusal_of_not_admitted (hserved : s.Served n) (h : ¬s.Admitted n) : s.armRefusal n = some .badField :=
  (if_neg (State.served_iff.mp hserved)).trans (if_pos (not_not.mp (mt State.admitted_iff.mpr h)))

theorem State.armRefusal_of_not_windowFit (hserved : s.Served n) (hadmitted : s.Admitted n) (h : ¬s.WindowFit n) :
    s.armRefusal n = some .badField :=
  (if_neg (State.served_iff.mp hserved)).trans <| (if_neg (State.admitted_iff.mp hadmitted)).trans <|
    if_pos (not_not.mp (mt State.windowFit_iff.mpr h))

theorem State.armRefusal_eq_none (hserved : s.Served n) (hadmitted : s.Admitted n) (hwindow : s.WindowFit n) : s.armRefusal n = none :=
  (if_neg (State.served_iff.mp hserved)).trans <| (if_neg (State.admitted_iff.mp hadmitted)).trans <|
    if_neg (State.windowFit_iff.mp hwindow)

variable {k : Byte} (a : Tick)

theorem exec_arm_of_state (hs : InFrame s) (hk : indexOf 16 k = some n) (hinit : s.engine.init = false) (hst : (s.ctx n).state ≠ .idle) :
    exec (.arm k a) s = .next (refusedWith 7 s .state) := by
  simp only [exec, execArm, State.runCommand_of_inFrame hs, hk, hinit, Bool.false_eq_true, if_false, if_pos hst, Answer.refuse, refusedWith]

theorem exec_arm_of_refusal {code : ResultCode} (hs : InFrame s) (hk : indexOf 16 k = some n) (hinit : s.engine.init = false)
    (hst : (s.ctx n).state = .idle) (h : s.armRefusal n = some code) : exec (.arm k a) s = .next (refusedWith 7 s code) := by
  simp only [exec, execArm, State.runCommand_of_inFrame hs, hk, hinit, Bool.false_eq_true, if_false, if_neg (not_not.mpr hst), h,
    Answer.refuse, refusedWith]

theorem exec_arm_taken (hs : InFrame s) (hk : indexOf 16 k = some n) (hinit : s.engine.init = false) (hst : (s.ctx n).state = .idle)
    (h : s.armRefusal n = none) : exec (.arm k a) s = .next (takenWith 7 (s.takeArm n a) []) := by
  simp only [exec, execArm, State.runCommand_of_inFrame hs, hk, hinit, Bool.false_eq_true, if_false, if_neg (not_not.mpr hst), h,
    Answer.taken, takenWith]

end

/-- Settles O34: the lines of R76 in their order, each by the line of `armRefusal`. -/
theorem armRefusedInOrder : Obligations.ArmRefusedInOrder := by
  intro s k a n hs hk hinit
  have hk := indexOf_of_eq hk
  exact ⟨exec_arm_of_state a hs hk hinit,
    fun hst h => exec_arm_of_refusal a hs hk hinit hst (State.armRefusal_of_not_served h),
    fun hst hserved h => exec_arm_of_refusal a hs hk hinit hst (State.armRefusal_of_not_admitted hserved h),
    fun hst hserved hadmitted h => exec_arm_of_refusal a hs hk hinit hst (State.armRefusal_of_not_windowFit hserved hadmitted h),
    fun hst hserved hadmitted hwindow => ⟨_, exec_arm_taken a hs hk hinit hst (State.armRefusal_eq_none hserved hadmitted hwindow)⟩⟩

/-! ### A taken ARM -/

@[simp] theorem State.modCtx_setCtx (s : State) (n : Fin 16) (c : Context) (f : Context → Context) :
    (s.setCtx n c).modCtx n f = s.setCtx n (f c) := by
  rw [State.modCtx, State.ctx_setCtx_self, State.setCtx_setCtx]

/-- The part with a context prepared by an ARM, under a configuration, in a state and with LATE pending as given (R77). -/
def State.prepared (s : State) (n : Fin 16) (cfg : CtxConfig) (state : CtxState) (late : Bool) : State :=
  s.setCtx n { s.ctx n with
    config := cfg
    state := state
    live := { Live.zero with armTick := s.clock.timescale, armElapsed := s.clock.elapsed }
    position := 0
    latePending := late }

theorem State.prepare_eq (s : State) (n : Fin 16) : s.prepare n = s.prepared n (s.ctx n).config (s.ctx n).state false := rfl

section
variable {s : State} {n : Fin 16}

theorem State.takeArm_onEdge (h : (s.ctx n).config.armMode = .onEdge) (a : Tick) :
    s.takeArm n a = s.prepared n (s.ctx n).config .armed false := by
  simp only [State.takeArm, h, State.prepare_eq, State.prepared, State.modCtx_setCtx]

theorem State.takeArm_immediate (h : (s.ctx n).config.armMode = .immediate) (a : Tick) :
    s.takeArm n a = (s.prepared n (s.ctx n).config (s.ctx n).state false).fulfilNow n := by
  simp only [State.takeArm, h, State.prepare_eq]

theorem State.takeArm_ahead {a : Tick} (h : (s.ctx n).config.armMode = .atTime) (ha : armTimeTest a s.clock.timescale = .future) :
    s.takeArm n a = s.prepared n { (s.ctx n).config with armTime := a } .armed false := by
  simp only [State.takeArm, h, ha, State.prepare_eq, State.prepared, State.modCtx_setCtx]

theorem State.takeArm_now {a : Tick} (h : (s.ctx n).config.armMode = .atTime) (ha : armTimeTest a s.clock.timescale = .present) :
    s.takeArm n a = (s.prepared n { (s.ctx n).config with armTime := a } (s.ctx n).state false).fulfilNow n := by
  simp only [State.takeArm, h, ha, State.prepare_eq, State.prepared, State.modCtx_setCtx]

theorem State.takeArm_late {a : Tick} (h : (s.ctx n).config.armMode = .atTime) (ha : armTimeTest a s.clock.timescale = .past) :
    s.takeArm n a = (s.prepared n { (s.ctx n).config with armTime := a } (s.ctx n).state true).fulfilNow n := by
  simp only [State.takeArm, h, ha, State.prepare_eq, State.prepared, State.modCtx_setCtx]

/-- The arm condition met now is what R80 gives at the latest coarse tick. -/
theorem State.fulfilNow_fulfilled (s : State) (n : Fin 16) :
    Fulfilled n ⟨s.clock.timescale, s.clock.elapsed⟩ (stampOfTick s.clock.timescale) (decide (s.clock.monitor ≠ .locked)) s (s.fulfilNow n) := by
  rw [decide_not]
  exact State.fulfil_fulfilled s n _ _ _

end

theorem armTimeTest_eq_present_iff (a now : Tick) : armTimeTest a now = .present ↔ (a - now).toNat = 0 := by
  unfold armTimeTest
  split_ifs with h1 h2
  · simp [h1]
  · simp only [false_iff]
    bv_omega
  · simp only [false_iff]
    omega

theorem armTimeTest_eq_future_iff (a now : Tick) : armTimeTest a now = .future ↔ 1 ≤ (a - now).toNat ∧ (a - now).toNat ≤ 2 ^ 47 - 1 := by
  unfold armTimeTest
  split_ifs with h1 h2
  · simp [h1]
  · simp only [true_iff]
    bv_omega
  · simp only [false_iff]
    omega

theorem armTimeTest_eq_past_iff (a now : Tick) : armTimeTest a now = .past ↔ 2 ^ 47 ≤ (a - now).toNat := by
  unfold armTimeTest
  split_ifs with h1 h2
  · simp [h1]
  · simp only [false_iff]
    omega
  · simp only [true_iff]
    omega

/-- Settles O35: each arm mode by its equation of `takeArm`, a fulfilment by `fulfilNow_fulfilled`. -/
theorem armTakesItsMode : Obligations.ArmTakesItsMode := by
  intro s k a n hs hk hinit hst hserved hadmitted hwindow
  have htaken := exec_arm_taken a hs (indexOf_of_eq hk) hinit hst (State.armRefusal_eq_none hserved hadmitted hwindow)
  have hfulfilled (cfg : CtxConfig) (late : Bool) := State.fulfilNow_fulfilled (s.prepared n cfg .idle late) n
  dsimp only
  rw [← toNat_sub_eq_mod]
  refine ⟨fun hm => ?_, fun hm => ?_, fun hm => ⟨fun hahead => ?_, fun hnot => ?_⟩⟩
  · rw [htaken, State.takeArm_onEdge hm, State.prepared]
  · rw [State.takeArm_immediate hm, hst] at htaken
    exact ⟨_, htaken, hfulfilled _ _⟩
  · rw [htaken, State.takeArm_ahead hm ((armTimeTest_eq_future_iff a _).mpr hahead), State.prepared]
  · obtain hzero | hpast := hnot
    · rw [State.takeArm_now hm ((armTimeTest_eq_present_iff a _).mpr hzero), hst] at htaken
      refine ⟨_, htaken, ?_⟩
      rw [decide_eq_false (not_not.mpr hzero)]
      exact hfulfilled _ _
    · rw [State.takeArm_late hm ((armTimeTest_eq_past_iff a _).mpr hpast), hst] at htaken
      refine ⟨_, htaken, ?_⟩
      rw [decide_eq_true (by omega : (a - s.clock.timescale).toNat ≠ 0)]
      exact hfulfilled _ _

/-! ### ABORT and RETIRE -/

section
variable {s : State} {n : Fin 16} {k : Byte}

theorem exec_abort_of_free (hs : InFrame s) (hk : indexOf 16 k = some n) (hst : (s.ctx n).state = .free) :
    exec (.abort k) s = .next (refusedWith 1 s .state) := by
  simp only [exec, execAbort, State.runCommand_of_inFrame hs, hk, if_pos hst, Answer.refuse, refusedWith]

theorem exec_abort_of_idle (hs : InFrame s) (hk : indexOf 16 k = some n) (hst : (s.ctx n).state = .idle) :
    exec (.abort k) s = .next (takenWith 1 s []) := by
  have hfree : (s.ctx n).state ≠ .free := by rw [hst]; nofun
  simp only [exec, execAbort, State.runCommand_of_inFrame hs, hk, if_neg hfree, if_pos hst, Answer.taken, takenWith]

theorem exec_abort_taken (hs : InFrame s) (hk : indexOf 16 k = some n) (hfree : (s.ctx n).state ≠ .free) (hidle : (s.ctx n).state ≠ .idle) :
    exec (.abort k) s = .next (takenWith 1 (s.abortRun n) []) := by
  simp only [exec, execAbort, State.runCommand_of_inFrame hs, hk, if_neg hfree, if_neg hidle, Answer.taken, takenWith]

theorem exec_retire_of_state (hs : InFrame s) (hk : indexOf 16 k = some n) (hst : (s.ctx n).state ≠ .idle) :
    exec (.retire k) s = .next (refusedWith 1 s .state) := by
  simp only [exec, execRetire, State.runCommand_of_inFrame hs, hk, if_pos hst, Answer.refuse, refusedWith]

theorem exec_retire_taken (hs : InFrame s) (hk : indexOf 16 k = some n) (hst : (s.ctx n).state = .idle) :
    exec (.retire k) s = .next (takenWith 1 (s.retire n) []) := by
  simp only [exec, execRetire, State.runCommand_of_inFrame hs, hk, if_neg (not_not.mpr hst), Answer.taken, takenWith]

end

/-- ABORT voids the context's own work in the unit and no other (R83). -/
theorem State.abortRun_work (s : State) (n : Fin 16) :
    (s.abortRun n).quotient.work = s.quotient.work.map fun w => if w.context = n then { w with void := true } else w := rfl

theorem State.abortRun_work_of_ne {s : State} {n : Fin 16} (h : ∀ w, s.quotient.work = some w → w.context ≠ n) :
    (s.abortRun n).quotient.work = s.quotient.work := by
  rw [State.abortRun_work]
  cases hw : s.quotient.work with
  | none => rfl
  | some w => rw [Option.map_some, if_neg (h w hw)]

/-- A context without entries leaves a list without them (R84). -/
theorem insertEntries_nil (n : Fin 16) (l : List (Fin 16 × Role)) : insertEntries n [] l = l := by
  rw [insertEntries, List.append_nil, List.takeWhile_append_dropWhile]

theorem State.retire_listenersOf (s : State) (n : Fin 16) (c : Fin 8) :
    (s.retire n).listenersOf c = (s.listenersOf c).filter fun e => decide (e.1 ≠ n) := by
  have hnone : entriesOn CtxConfig.zero n c = [] := rfl
  rw [State.retire, State.relist_listenersOf, hnone, insertEntries_nil]
  rfl

/-- Settles O36: the answers by the state of the context, what is left by the laws of `abortRun` and `retire`. -/
theorem abortAndRetire : Obligations.AbortAndRetire := by
  intro s k n hs hk
  have hk := indexOf_of_eq hk
  refine ⟨exec_abort_of_free hs hk, exec_abort_of_idle hs hk, fun hst => ?_, exec_retire_of_state hs hk, fun hst =>
    ⟨_, exec_retire_taken hs hk hst, rfl, s.ctx_retire_self n, fun m hm => s.ctx_retire_of_ne hm, ?_, rfl, fun id hid => ?_,
      s.retire_listenersOf n⟩⟩
  · have hstops : (s.ctx n).state ≠ .free ∧ (s.ctx n).state ≠ .idle := by
      obtain (h | h | h | h) | h := hst <;> rw [h] <;> exact ⟨nofun, nofun⟩
    refine ⟨_, exec_abort_taken hs hk hstops.1 hstops.2, rfl, fun m hm => s.ctx_abortRun_of_ne hm, s.ctx_abortRun_self n, rfl,
      fun w hw hc => ?_, State.abortRun_work_of_ne⟩
    rw [State.abortRun_work, hw, Option.map_some, if_pos hc]
  · exact (s.setCtx n _).source_clearEvents_self (contextSource n)
  · exact (s.setCtx n _).source_clearEvents_of_ne hid

/-! ### CLOSE GATE -/

/-- Settles O37: the gate that is closed is the one `totalClose_closed` describes. -/
theorem closeGateClosesManualGate : Obligations.CloseGateClosesManualGate := by
  intro s k n hs hk
  have hk := indexOf_of_eq hk
  refine ⟨fun h => ?_, fun hkind hmode hst => ?_⟩
  · simp only [exec, execCloseGate, State.runCommand_of_inFrame hs, hk, if_neg h, Answer.refuse, refusedWith]
  · have hopen : (s.ctx n).state ≠ .settling := by rw [hst]; nofun
    have hexec : exec (.closeGate k) s = .next (takenWith 1 (s.totalClose n s.now (s.tickFlags n)) []) := by
      simp only [exec, execCloseGate, State.runCommand_of_inFrame hs, hk, if_pos (And.intro hkind (And.intro hmode hst)), Answer.taken,
        takenWith]
    refine ⟨_, hexec, ?_⟩
    rw [decide_not]
    exact State.totalClose_closed hopen s.now (s.tickFlags n)

end Sys2Proof.Machine
end

section
/-! Reading back a context, its live figures and its results (spec/04_measurement_contexts.md, section 4.8, and
spec/08_quotient_unit_and_result_posting.md, sections 8.6 and 8.7; O38, O39). -/

namespace Sys2Proof.Machine

open Sys2Proof.Safety

theorem configBlockBytes_length (c : ConfigBlock) : (configBlockBytes c).length = 45 := by
  simp [configBlockBytes]

theorem State.contextBytes_length (s : State) (n : Fin 16) : (s.contextBytes n).length = 58 := by
  simp [State.contextBytes, configBlockBytes_length]

/-- The figures of READ LIVE fill at most the 38 bytes of their area (R179). -/
theorem State.liveFigures_length_le (s : State) (n : Fin 16) : (s.liveFigures n).length ≤ 38 := by
  unfold State.liveFigures
  dsimp only
  split <;> simp

/-- The 38 bytes of the figures' area of READ LIVE. -/
def State.liveArea (s : State) (n : Fin 16) : List Byte := s.liveFigures n ++ zeros (38 - (s.liveFigures n).length)

theorem State.liveArea_length (s : State) (n : Fin 16) : (s.liveArea n).length = 38 := by
  have h := s.liveFigures_length_le n
  simp only [State.liveArea, zeros, List.length_append, List.length_replicate]
  omega

theorem State.liveBytes_eq (s : State) (n : Fin 16) :
    s.liveBytes n =
      [ctxStateCode (s.ctx n).state, kindCode (s.ctx n).config.kind] ++ bytesOf 2 (s.ctx n).live.flags.bits.toNat ++
        [onOffCode (s.ctx n).live.deadline.isSome] ++ bytesOf 6 ((s.ctx n).live.deadline.getD 0).toNat ++ s.liveArea n := by
  simp only [State.liveBytes, State.liveArea, List.append_assoc]

theorem unitHolds_iff (s : State) (n : Fin 16) :
    s.unitHolds n = true ↔ ∃ w, s.quotient.work = some w ∧ w.context = n ∧ w.void = false := by
  unfold State.unitHolds
  cases s.quotient.work <;> simp

section
variable {s : State} {n : Fin 16}

theorem State.eventsSinceStart_of_open (h : (s.ctx n).state = .gating ∨ (s.ctx n).state = .closing) :
    ((s.ctx n).config.senseA = .any → s.eventsSinceStart n = (s.ctx n).live.edgeTally) ∧
      ((s.ctx n).config.senseA ≠ .any → s.eventsSinceStart n =
        (s.channel (s.ctx n).config.channelA).sample s.clock.elapsed (s.ctx n).config.senseA - (s.ctx n).live.startCount) := by
  constructor
  · intro hany
    simp only [State.eventsSinceStart, if_pos h, if_pos hany]
  · intro hany
    simp only [State.eventsSinceStart, if_pos h, if_neg hany]

theorem exec_readContext {k : Byte} (hs : InFrame s) (hk : indexOf 16 k = some n) :
    exec (.readContext k) s = .next (takenWith 1 s (s.contextBytes n)) := by
  simp only [exec, execReadContext, State.runCommand_of_inFrame hs, hk, Answer.taken, takenWith]

theorem exec_readLive {k : Byte} (hs : InFrame s) (hk : indexOf 16 k = some n) :
    exec (.readLive k) s = .next (takenWith 1 s (s.liveBytes n)) := by
  simp only [exec, execReadLive, State.runCommand_of_inFrame hs, hk, Answer.taken, takenWith]

end

/-- Settles O38: the layouts by `contextBytes` and `liveBytes`, the figures' area kind by kind. -/
theorem contextReadBack : Obligations.ContextReadBack := by
  refine ⟨by decide, fun s k n hs hk => ⟨⟨_, onOffCode (s.unitHolds n), exec_readContext hs (indexOf_of_eq hk), s.contextBytes_length n,
    rfl, fun h => ?_, fun h => ?_⟩, ⟨_, s.liveArea n, exec_readLive hs (indexOf_of_eq hk), ?_, s.liveBytes_eq n, s.liveArea_length n,
    fun hkind => ?_, fun hkind => ⟨s.eventsSinceStart n, s.ticksSinceStart n, ?_, fun h => ⟨if_pos h, State.eventsSinceStart_of_open h⟩,
      fun hg hc => ?_⟩, fun hkind => ?_, fun hkind => ⟨s.countSinceOpen n, ?_, fun h => if_pos h, fun h => if_neg h⟩⟩⟩⟩
  · rw [(unitHolds_iff s n).mpr h]
    rfl
  · rw [Bool.eq_false_iff.mpr (mt (unitHolds_iff s n).mp h)]
    rfl
  · simp [State.liveBytes_eq, State.liveArea_length]
  · simp only [State.liveArea, State.liveFigures, hkind]
    rfl
  · simp [State.liveArea, State.liveFigures, hkind, zeros]
  · have hclosed := not_or.mpr (And.intro hg hc)
    exact ⟨if_neg hclosed, if_neg hclosed⟩
  · simp [State.liveArea, State.liveFigures, hkind, zeros]
  · simp [State.liveArea, State.liveFigures, hkind, zeros]

/-! ### Results -/

theorem ResultRecord.indications_eq (r : ResultRecord) :
    r.indications = BitVec.ofNat 8 ((if r.fresh then 1 else 0) + (if r.overrun then 2 else 0)) := by
  unfold ResultRecord.indications
  cases r.fresh <;> cases r.overrun <;> decide

theorem ResultRecord.bytes_length (r : ResultRecord) (n : Fin 16) : (r.bytes n).length = 41 := by
  unfold ResultRecord.bytes
  dsimp only
  split <;> simp [ResultRecord.header, zeros]

theorem Flags.bits_getLsbD (f : Flags) (k : Nat) :
    f.bits.getLsbD k = true ↔
      (k = 0 ∧ f.sat = true) ∨ (k = 1 ∧ f.limitLow = true) ∨ (k = 2 ∧ f.limitHigh = true) ∨ (k = 3 ∧ f.calSwap = true) ∨
        (k = 4 ∧ f.blind = true) ∨ (k = 5 ∧ f.ref = true) ∨ (k = 6 ∧ f.late = true) ∨ (k = 7 ∧ f.gap = true) ∨
        (k = 8 ∧ f.timeoutClose = true) := by
  simp only [Flags.bits, BitVec.getLsbD_or, Bool.or_eq_true, flagBit_getLsbD (w := 16) (by decide : 0 < 16),
    flagBit_getLsbD (w := 16) (by decide : 1 < 16), flagBit_getLsbD (w := 16) (by decide : 2 < 16),
    flagBit_getLsbD (w := 16) (by decide : 3 < 16), flagBit_getLsbD (w := 16) (by decide : 4 < 16),
    flagBit_getLsbD (w := 16) (by decide : 5 < 16), flagBit_getLsbD (w := 16) (by decide : 6 < 16),
    flagBit_getLsbD (w := 16) (by decide : 7 < 16), flagBit_getLsbD (w := 16) (by decide : 8 < 16), or_assoc]

theorem exec_readResult {s : State} {k : Byte} {n : Fin 16} (hs : InFrame s) (hk : indexOf 16 k = some n) :
    exec (.readResult k) s = .next (answered 1 s .ok [] (.results n)) := by
  simp only [exec, execReadResult, State.runCommand_of_inFrame hs, hk]

theorem exec_resultRecordSnapshot {s : State} {n : Fin 16} (hlow : s.rstnLow = false) (hb : s.port.burst = .results n) :
    exec .resultRecordSnapshot s = .next (s.snapshot n) := by
  simp only [exec, execResultRecordSnapshot, hlow, hb, Bool.false_eq_true, if_false]

@[simp] theorem State.ctx_snapshot_self (s : State) (n : Fin 16) :
    (s.snapshot n).ctx n = { s.ctx n with record := { (s.ctx n).record with fresh := false, overrun := false } } :=
  s.ctx_setCtx_self n _

@[simp] theorem State.ctx_snapshot_of_ne (s : State) {n m : Fin 16} (h : m ≠ n) : (s.snapshot n).ctx m = s.ctx m :=
  s.ctx_setCtx_of_ne h _

/-- Settles O39: the snapshot's record, its layout figure by figure, and the flag bits. -/
theorem resultsReadInBursts : Obligations.ResultsReadInBursts := by
  refine ⟨fun s k n hs hk => exec_readResult hs (indexOf_of_eq hk), fun s n hlow hb => ⟨s.snapshot n, (s.ctx n).record.bytes n,
    exec_resultRecordSnapshot hlow hb, rfl, fun m hm => s.ctx_snapshot_of_ne hm, s.ctx_snapshot_self n, ?_, ?_,
    ResultRecord.bytes_length _ n, fun hf => ?_, fun e span f start hf => ?_, fun count mean lo hi first hf => ?_,
    fun e total opened closed hf => ?_⟩, Flags.bits_getLsbD⟩
  · rw [State.resultCause_contextSource, State.ctx_snapshot_self]
    rfl
  · rfl
  all_goals
    simp only [ResultRecord.bytes, hf, ResultRecord.header, ResultRecord.indications_eq]
    rfl

end Sys2Proof.Machine
end

section
/-! The watch of a context (spec/04_measurement_contexts.md, section 4.7): what an expiry discards and how the run goes on (O41). -/

namespace Sys2Proof.Machine

open Sys2Proof.Safety

/-! ### The waits that an expiry discards -/

/-- The watched waits of which an expiry discards what was in progress (R90, R105, R106, R123, R124, R130, R132). -/
def Context.Discards (c : Context) : Prop :=
  (c.config.kind = .frequency ∧ (c.state = .starting ∨ c.state = .closing)) ∨
    (c.config.kind = .interval ∧ (c.state = .starting ∨ c.state = .gating)) ∨
    (c.config.kind = .totalize ∧ c.config.gateMode = .window ∧ (c.state = .starting ∨ c.state = .gating))

/-- The open MANUAL gate, which an expiry closes (R134). -/
def Context.ManualOpen (c : Context) : Prop := c.config.kind = .totalize ∧ c.config.gateMode = .manual ∧ c.state = .gating

theorem Context.watched_iff (c : Context) : c.watched = true ↔ c.Discards ∨ c.ManualOpen := by
  unfold Context.watched Context.Discards Context.ManualOpen
  cases c.config.kind <;> cases c.state <;> simp
  cases c.config.gateMode <;> simp

/-- The context with the live figures `l` after an expiry: its SINGLE run ends, its CONTINUOUS run waits anew (R82). -/
def State.waitAnew (s : State) (n : Fin 16) (l : Live) : State :=
  s.setCtx n { s.ctx n with
    state := match (s.ctx n).config.runMode with
      | .single => endState s n
      | .continuous => .starting
    live := { l with
      deadline := match (s.ctx n).config.runMode with
        | .single => none
        | .continuous => some (s.clock.timescale + watchLength (s.ctx n)) } }

section
variable {s : State} {n : Fin 16}

theorem State.waitAnew_single (h : (s.ctx n).config.runMode = .single) (l : Live) :
    (s.setCtx n { s.ctx n with live := l }).endRun n = s.waitAnew n l := by
  have hpending : (s.setCtx n { s.ctx n with live := l }).gatePending n = s.gatePending n := State.gatePending_setCtx rfl
  rw [State.endRun, State.modCtx_setCtx, hpending, State.waitAnew, h]
  rfl

theorem State.waitAnew_continuous (h : (s.ctx n).config.runMode = .continuous) (l : Live) :
    s.setCtx n { s.ctx n with state := .starting, live := { l with deadline := some (s.deadlineFrom n s.clock.timescale) } } =
      s.waitAnew n l := by
  rw [State.waitAnew, h]
  rfl

theorem State.frequencyWatch_eq (s : State) (n : Fin 16) :
    ∃ l, s.frequencyWatch n = s.waitAnew n l ∧ l.flags = Flags.clear ∧ l.testFulfilment = false := by
  unfold State.frequencyWatch
  dsimp only
  generalize hl : (if (s.ctx n).state = .closing then _ else _ : Live) = l
  refine ⟨l, ?_, by rw [← hl]; split <;> rfl, by rw [← hl]; split <;> rfl⟩
  split
  · next h => exact State.waitAnew_single h l
  · next h => exact State.waitAnew_continuous h l

theorem State.windowWatch_eq (s : State) (n : Fin 16) :
    ∃ l, s.windowWatch n = s.waitAnew n l ∧ l.flags = Flags.clear ∧ l.testFulfilment = false := by
  unfold State.windowWatch
  dsimp only
  generalize hl : (if (s.ctx n).state = .gating then _ else _ : Live) = l
  refine ⟨l, ?_, by rw [← hl]; split <;> rfl, by rw [← hl]; split <;> rfl⟩
  split
  · next h => exact State.waitAnew_single h l
  · next h => exact State.waitAnew_continuous h l

theorem State.intervalWatch_eq (s : State) (n : Fin 16) :
    ∃ l, s.intervalWatch n = s.waitAnew n l ∧ l.flags = Flags.clear ∧ (l.batchOpen = false ∧ l.batchCount = 0 ∧ l.batchSum = 0) ∧
      ((s.ctx n).config.runMode = .continuous → l.heldStop = none ∧ l.heldNotice = none ∧ l.entryTick = s.clock.timescale ∧
        l.floor = (s.ctx n).expiryFloor) := by
  unfold State.intervalWatch
  dsimp only
  split
  · next h => exact ⟨_, State.waitAnew_single h _, rfl, ⟨rfl, rfl, rfl⟩, by rw [h]; nofun⟩
  · next h =>
    rw [State.intervalWait_eq, State.setCtx_setCtx, State.ctx_setCtx_self]
    exact ⟨_, State.waitAnew_continuous h { (s.ctx n).live.discardBatch with
      heldStop := none, heldNotice := none, floor := (s.ctx n).expiryFloor, entryTick := s.clock.timescale },
      rfl, ⟨rfl, rfl, rfl⟩, fun _ => ⟨rfl, rfl, rfl, rfl⟩⟩

/-- An expiry that discards: TIMEOUT, the figures set aside, and the wait anew or the end of the run (R82). -/
theorem State.watchExpires_discards (h : (s.ctx n).Discards) :
    ∃ l, s.watchExpires n = (s.raise (contextSource n) causeTimeout).waitAnew n l ∧ l.flags = Flags.clear ∧
      ((s.ctx n).config.kind ≠ .interval → l.testFulfilment = false) ∧
      ((s.ctx n).config.kind = .interval → (l.batchOpen = false ∧ l.batchCount = 0 ∧ l.batchSum = 0) ∧
        ((s.ctx n).config.runMode = .continuous → l.heldStop = none ∧ l.heldNotice = none ∧ l.entryTick = s.clock.timescale ∧
          l.floor = (s.ctx n).expiryFloor)) := by
  unfold State.watchExpires
  dsimp only
  obtain ⟨hk, -⟩ | ⟨hk, -⟩ | ⟨hk, hm, -⟩ := h
  · obtain ⟨l, heq, hflags, htest⟩ := (s.raise (contextSource n) causeTimeout).frequencyWatch_eq n
    rw [hk]
    exact ⟨l, heq, hflags, fun _ => htest, nofun⟩
  · obtain ⟨l, heq, hflags, hbatch, hrun⟩ := (s.raise (contextSource n) causeTimeout).intervalWatch_eq n
    rw [hk]
    exact ⟨l, heq, hflags, fun hne => absurd rfl hne, fun _ => ⟨hbatch, hrun⟩⟩
  · obtain ⟨l, heq, hflags, htest⟩ := (s.raise (contextSource n) causeTimeout).windowWatch_eq n
    rw [hk, hm]
    exact ⟨l, heq, hflags, fun _ => htest, nofun⟩

/-- An expiry at an open MANUAL gate: TIMEOUT, and the gate closes with TIMEOUT_CLOSE (R134). -/
theorem State.watchExpires_manual (h : (s.ctx n).ManualOpen) :
    let u := s.raise (contextSource n) causeTimeout
    s.watchExpires n = u.totalClose n u.now { u.tickFlags n with timeoutClose := true } := by
  obtain ⟨hk, hm, -⟩ := h
  simp only [State.watchExpires, hk, hm]
  rfl

theorem exec_watchExpiry (h : (s.ctx n).watched = true) (hd : (s.ctx n).live.deadline = some s.clock.timescale) :
    exec (.watchExpiry n) s = .next (s.watchExpires n) := by
  simp only [exec, execWatchExpiry, State.watch, if_pos (And.intro h hd)]

/-- What the context comes to after an expiry. -/
theorem State.waitAnew_raise_ctx (s : State) (n : Fin 16) (k : Fin 4) (l : Live) :
    ((s.raise (contextSource n) k).waitAnew n l).ctx n =
      { s.ctx n with
        state := match (s.ctx n).config.runMode with
          | .single => endState s n
          | .continuous => .starting
        live := { l with
          deadline := match (s.ctx n).config.runMode with
            | .single => none
            | .continuous => some (s.clock.timescale + watchLength (s.ctx n)) } } :=
  State.ctx_setCtx_self ..

theorem ContextOnly.waitAnew (s : State) (n : Fin 16) (l : Live) : ContextOnly n s (s.waitAnew n l) := .setCtx s n rfl

end

/-- Settles O41: by the kind of the wait, `watchExpires_discards` or `watchExpires_manual`. -/
theorem watchExpiresAtItsDeadline : Obligations.WatchExpiresAtItsDeadline := by
  intro s n hd
  refine ⟨fun hdiscards => ?_, fun hk hm hst => ?_⟩
  · have hdiscards : (s.ctx n).Discards := hdiscards
    obtain ⟨l, heq, hflags, htest, hinterval⟩ := State.watchExpires_discards hdiscards
    have hexec := exec_watchExpiry (((s.ctx n).watched_iff).mpr (.inl hdiscards)) hd
    rw [heq] at hexec
    have honly := (ContextOnly.raise s n causeTimeout).trans (ContextOnly.waitAnew (s.raise (contextSource n) causeTimeout) n l)
    refine ⟨_, hexec, honly.onlyContext, rfl, State.raise_raised s (contextSource n) causeTimeout, honly.config, ?_⟩
    rw [State.waitAnew_raise_ctx]
    refine ⟨rfl, rfl, rfl, rfl, rfl, rfl, hflags, htest, fun hk => (hinterval hk).1, fun hr => ?_, fun hr => ?_⟩
    · rw [hr]
      exact ⟨rfl, rfl⟩
    · rw [hr]
      refine ⟨rfl, rfl, fun hk => ?_⟩
      obtain ⟨hstop, hnotice, hentry, hfloor⟩ := (hinterval hk).2 hr
      refine ⟨hstop, hnotice, hentry, fun hst => hfloor.trans ?_, fun hst => hfloor.trans ?_⟩
      · rw [Context.expiryFloor, hst]
        rfl
      · rw [Context.expiryFloor, hst]
        rfl
  · have hopen : (s.ctx n).ManualOpen := ⟨hk, hm, hst⟩
    have hexec := exec_watchExpiry (((s.ctx n).watched_iff).mpr (.inr hopen)) hd
    rw [State.watchExpires_manual hopen] at hexec
    have hclosed := State.totalClose_closed (s := s.raise (contextSource n) causeTimeout) (n := n) (by rw [State.raise_ctx, hst]; nofun)
      (s.raise (contextSource n) causeTimeout).now { (s.raise (contextSource n) causeTimeout).tickFlags n with timeoutClose := true }
    refine ⟨_, _, hexec, State.raise_raised s (contextSource n) causeTimeout, rfl, ?_⟩
    rw [decide_not]
    exact hclosed

end Sys2Proof.Machine
end

section
/-! What a tick reaches (spec/01_timescale_reference_and_stamps.md, section 1.6): arm times, expiry ticks and deadlines are taken at their
tick, and the step of the tick leaves none behind (O40). -/

namespace Sys2Proof.Machine

open Sys2Proof.Safety

/-! ### Roles in the states that wait for nothing -/

section
variable {s : State} {n : Fin 16}

/-- An ARMED context acts under role ARM alone (R78, R79). -/
theorem State.takeMessage_of_armed (h : (s.ctx n).state = .armed) (m : Message) {r : Role} (hr : r ≠ .arm) : s.takeMessage n m r = s := by
  unfold State.takeMessage
  split
  · simp [State.frequencyMessage, h]
  · simp [State.intervalMessageA, h]
  · rfl
  · rfl
  · rfl
  · simp [State.intervalMessageB, h]
  · simp [State.totalMessageB, State.windowItem, h]
  · rfl
  · exact absurd rfl hr

theorem foldl_of_fixed {α β : Type} {f : β → α → β} {b : β} {l : List α} (h : ∀ a ∈ l, f b a = b) : l.foldl f b = b := by
  induction l with
  | nil => rfl
  | cons a rest ih =>
    rw [List.foldl_cons, h a List.mem_cons_self]
    exact ih fun x hx => h x (List.mem_cons_of_mem a hx)

/-- What a message does to an ARMED context: it is the arm edge or passes. -/
theorem State.deliver_message_armed {c : Fin 8} {i : BusItem} {x : StampInfo} (h : Arriving s n c i) (hc : i.channel = c)
    (hx : i.stamped = some x) (hl : ListedOn s n c) (ha : AfterArm s n i) (hst : (s.ctx n).state = .armed) :
    s.deliver n c true =
      if (s.ctx n).config.kind ≠ .none ∧ (s.ctx n).config.armMode = .onEdge ∧ (s.ctx n).config.armChannel = c then
        (handed s n c).armMessage n (i.message x)
      else handed s n c := by
  rw [State.deliver_message h hc hx hl ha, map_entriesOn]
  by_cases hk : (s.ctx n).config.kind = .none
  · rw [if_pos hk, if_neg fun hn => hn.1 hk]
    rfl
  · have hpass (r : Role) (hr : r ≠ .arm) (p : Prop) [Decidable p] :
        (if p then [r] else []).foldl (fun t r => t.takeMessage n (i.message x) r) (handed s n c) = handed s n c := by
      rw [foldl_ite_singleton, State.takeMessage_of_armed (s := handed s n c) hst _ hr, ite_self]
    rw [if_neg hk, List.foldl_append, List.foldl_append, hpass .a nofun, hpass .b nofun, foldl_ite_singleton]
    by_cases harm : (s.ctx n).config.armMode = .onEdge ∧ (s.ctx n).config.armChannel = c
    · rw [if_pos harm, if_pos ⟨hk, harm⟩, State.takeMessage]
    · rw [if_neg harm, if_neg fun hn => harm hn.2]

theorem State.armMessage_of_edge {m : Message} (hst : (s.ctx n).state = .armed) (hm : (s.ctx n).config.armMode = .onEdge)
    (htakes : (s.ctx n).config.armSense.takes m.sense = true) (hlater : laterStamp m.stamp (stampOfTick (s.ctx n).live.armTick) = true) :
    s.armMessage n m = s.fulfil n ⟨tickOfStamp m.stamp, m.edgeTick⟩ m.stamp m.unlocked := by
  simp only [State.armMessage, hst, hm, htakes, hlater, and_self, if_true]

/-! ### The state a fulfilment or a close leaves -/

theorem fulfilled_state {b : Boundary} {stamp : Stamp} {ref : Bool} {t : State} (h : Fulfilled n b stamp ref s t)
    (hk : (s.ctx n).config.kind ≠ .none) : (t.ctx n).state = .starting ∨ (t.ctx n).state = .gating := by
  obtain ⟨-, -, -, -, -, -, -, -, -, -, hwaits, -, -, hopens⟩ := h
  cases hkind : (s.ctx n).config.kind with
  | none => exact absurd hkind hk
  | frequency => exact .inl (hwaits (.inl hkind))
  | interval => exact .inl (hwaits (.inr (.inl hkind)))
  | totalize =>
    by_cases hm : (s.ctx n).config.gateMode = .window
    · exact .inl (hwaits (.inr (.inr ⟨hkind, hm⟩)))
    · exact .inr (hopens ⟨hkind, hm⟩).1

theorem endState_cases (s : State) (n : Fin 16) : endState s n = .settling ∨ endState s n = .idle := by
  unfold endState
  split
  · exact .inl rfl
  · exact .inr rfl

/-- The state of a context after an expiry of its watch: a SINGLE run ends; a CONTINUOUS one has a new deadline in a new wait. -/
theorem State.watchExpires_state (h : (s.ctx n).watched = true) :
    ((s.ctx n).config.runMode = .single → ((s.watchExpires n).ctx n).state = endState s n) ∧
    ((s.ctx n).config.runMode = .continuous →
      ((s.watchExpires n).ctx n).live.deadline = some (s.clock.timescale + watchLength (s.ctx n)) ∧
      (((s.watchExpires n).ctx n).state = .starting ∨ (s.ctx n).ManualOpen ∧ ((s.watchExpires n).ctx n).state = .gating)) := by
  obtain hdiscards | hmanual := (s.ctx n).watched_iff.mp h
  · obtain ⟨l, heq, -⟩ := State.watchExpires_discards hdiscards
    rw [heq, State.waitAnew_raise_ctx]
    refine ⟨fun hr => ?_, fun hr => ?_⟩
    · rw [hr]
    · rw [hr]
      exact ⟨rfl, .inl rfl⟩
  · have hclosed := State.totalClose_closed (s := s.raise (contextSource n) causeTimeout) (n := n)
      (by rw [State.raise_ctx, hmanual.2.2]; nofun) (s.raise (contextSource n) causeTimeout).now
      { (s.raise (contextSource n) causeTimeout).tickFlags n with timeoutClose := true }
    rw [State.watchExpires_manual hmanual]
    obtain ⟨⟨-, -, -, -, -, -, -, -, -, hsingle, -, hopens, -, hdeadline⟩, -⟩ := hclosed
    have hnotwindow : (s.ctx n).config.gateMode ≠ .window := by rw [hmanual.2.1]; nofun
    exact ⟨fun hr => (hsingle hr).1, fun hr => ⟨hdeadline hr hmanual.2.1, .inr ⟨hmanual, (hopens hr hnotwindow).1⟩⟩⟩

/-- The state of a context after the expiry of its TIME gate (R129, R136). -/
theorem State.totalClose_state (h : (s.ctx n).state = .gating) (hm : (s.ctx n).config.gateMode = .time) (b : Boundary) (f : Flags) :
    ((s.ctx n).config.runMode = .single → ((s.totalClose n b f).ctx n).state = endState s n) ∧
    ((s.ctx n).config.runMode = .continuous → ((s.totalClose n b f).ctx n).live.expiryTick = b.tick + gateLength (s.ctx n)) := by
  obtain ⟨⟨-, -, -, -, -, -, -, -, -, hsingle, -, -, hexpiry, -⟩, -⟩ := State.totalClose_closed (by rw [h]; nofun : (s.ctx n).state ≠ .settling) b f
  exact ⟨fun hr => (hsingle hr).1, fun hr => (hexpiry hr hm).1⟩

theorem add_watchLength_ne {c : Context} (h1 : 1 ≤ c.config.watch.toNat) (h2 : c.config.watch.toNat ≤ 100000000) (now : Tick) :
    now + watchLength c ≠ now := by
  unfold watchLength
  intro h
  have hlen := congrArg BitVec.toNat h
  rw [BitVec.toNat_add, BitVec.toNat_ofNat] at hlen
  omega

theorem add_gateLength_ne {c : Context} (h1 : 1 ≤ c.config.gateTime.toNat) (h2 : c.config.gateTime.toNat ≤ 100000000000) (now : Tick) :
    now + gateLength c ≠ now := by
  unfold gateLength
  intro h
  have hlen := congrArg BitVec.toNat h
  rw [BitVec.toNat_add, BitVec.toNat_ofNat] at hlen
  omega

end

/-! ### What the four events of a tick leave of a context -/

namespace StaysUnarmed

theorem gateExpiryAtLast (s : State) (n : Fin 16) : StaysUnarmed n s (s.gateExpiryAtLast n) :=
  ite (ite (setCtx nofun) (refl n s)) (refl n s)

theorem totalExpiry (s : State) (n : Fin 16) : StaysUnarmed n s (s.totalExpiry n) := by
  unfold State.totalExpiry
  dsimp only
  split
  · next h => exact totalClose h.2.2.1 _ _
  · exact refl n s

theorem watch (s : State) (n : Fin 16) : StaysUnarmed n s (s.watch n) := by
  unfold State.watch
  split
  · next h =>
    intro _
    obtain ⟨hsingle, hcontinuous⟩ := State.watchExpires_state h.1
    cases hr : (s.ctx n).config.runMode with
    | single =>
      rw [hsingle hr]
      obtain hend | hend := endState_cases s n <;> rw [hend] <;> nofun
    | continuous => obtain hst | ⟨-, hst⟩ := (hcontinuous hr).2 <;> rw [hst] <;> nofun
  · exact refl n s

end StaysUnarmed

/-- The arm time of the context is not due at `now` (R78). -/
def Context.ArmNotDue (now : Tick) (c : Context) : Prop :=
  c.config.kind ≠ .none → c.state = .armed → c.config.armMode = .atTime → c.config.armTime ≠ now

/-- The watch of the context is not due at `now` (R82). -/
def Context.WatchNotDue (now : Tick) (c : Context) : Prop :=
  c.Discards ∨ c.ManualOpen → 1 ≤ c.config.watch.toNat → c.config.watch.toNat ≤ 100000000 → c.live.deadline ≠ some now

/-- The TIME gate of the context is not due at `now` (R129). -/
def Context.TimeNotDue (now : Tick) (c : Context) : Prop :=
  c.config.kind = .totalize → c.config.gateMode = .time → c.state = .gating → 1 ≤ c.config.gateTime.toNat →
    c.config.gateTime.toNat ≤ 100000000000 → c.live.expiryTick ≠ now

/-- The reaching of the FREQUENCY gate's expiry tick is not due at `now` at the latest (R94; log 29). -/
def Context.GateNotDue (now : Tick) (c : Context) : Prop :=
  c.config.kind = .frequency → c.state = .gating → (now - c.live.expiryTick).toNat ≠ 249

/-- Nothing of the context is due at `now` (R14). -/
structure Context.NothingDue (now : Tick) (c : Context) : Prop where
  arm : c.ArmNotDue now
  watch : c.WatchNotDue now
  time : c.TimeNotDue now
  gate : c.GateNotDue now

section
variable {s t : State} {n : Fin 16} {now : Tick}

theorem armNotDue_of_staysUnarmed (hcfg : (t.ctx n).config = (s.ctx n).config) (hs : StaysUnarmed n s t) (h : (s.ctx n).ArmNotDue now) :
    (t.ctx n).ArmNotDue now := by
  intro hk hst
  rw [hcfg] at hk ⊢
  exact h hk (not_not.mp (mt hs (not_not.mpr hst)))

theorem armTime_armNotDue (s : State) (n : Fin 16) : ((s.armTime n).ctx n).ArmNotDue s.clock.timescale := by
  unfold State.armTime
  dsimp only
  split
  · intro hk hst
    rw [(ContextOnly.fulfilNow s n).config] at hk
    obtain h | h := fulfilled_state (State.fulfilNow_fulfilled s n) hk <;> rw [h] at hst <;> cases hst
  · next h => exact fun _ hst hm ht => h ⟨hst, hm, ht⟩

theorem gateExpiryAtLast_gateNotDue (s : State) (n : Fin 16) : ((s.gateExpiryAtLast n).ctx n).GateNotDue s.clock.timescale := by
  unfold State.gateExpiryAtLast State.gateExpiry
  dsimp only
  split
  · next hlast =>
    have hwithin : (s.ctx n).pastExpiry s.clock.timescale < Config.deliveryLimit := by omega
    split
    · intro _ hst
      rw [State.ctx_setCtx_self] at hst
      cases hst
    · next h => exact fun hk hst => absurd ⟨hk, hst, hwithin⟩ h
  · next hlast => exact fun _ _ hdue => hlast (congrArg (· + 1) hdue)

theorem totalExpiry_timeNotDue (s : State) (n : Fin 16) : ((s.totalExpiry n).ctx n).TimeNotDue s.clock.timescale := by
  unfold State.totalExpiry
  dsimp only
  split
  · next h =>
    obtain ⟨hk, hm, hst, -⟩ := h
    obtain ⟨hsingle, hcontinuous⟩ := State.totalClose_state hst hm s.now (s.tickFlags n)
    intro _ _ hst' h1 h2
    rw [(ContextOnly.totalClose s n _ _).config] at h1 h2
    cases hr : (s.ctx n).config.runMode with
    | single =>
      rw [hsingle hr] at hst'
      obtain hend | hend := endState_cases s n <;> rw [hend] at hst' <;> cases hst'
    | continuous =>
      rw [hcontinuous hr]
      exact add_gateLength_ne h1 h2 _
  · next h => exact fun hk hm hst _ _ hdue => h ⟨hk, hm, hst, hdue⟩

/-- An expiry tick of a TIME gate is no matter for a FREQUENCY context. -/
theorem totalExpiry_gateNotDue (h : (s.ctx n).GateNotDue now) : ((s.totalExpiry n).ctx n).GateNotDue now := by
  unfold State.totalExpiry
  dsimp only
  split
  · next htotal =>
    intro hk
    rw [(ContextOnly.totalClose s n _ _).config, htotal.1] at hk
    cases hk
  · exact h

theorem watch_watchNotDue (s : State) (n : Fin 16) : ((s.watch n).ctx n).WatchNotDue s.clock.timescale := by
  unfold State.watch
  split
  · next h =>
    obtain ⟨hsingle, hcontinuous⟩ := State.watchExpires_state h.1
    intro hwaits h1 h2
    rw [(ContextOnly.watchExpires s n).config] at h1 h2
    cases hr : (s.ctx n).config.runMode with
    | single =>
      rw [Context.Discards, Context.ManualOpen, hsingle hr] at hwaits
      obtain hend | hend := endState_cases s n <;> simp [hend] at hwaits
    | continuous =>
      rw [(hcontinuous hr).1]
      exact fun heq => add_watchLength_ne h1 h2 _ (Option.some.inj heq)
  · next h => exact fun hwaits _ _ hdue => h ⟨(s.ctx n).watched_iff.mpr hwaits, hdue⟩

/-- An expiry of the watch leaves no gate of a TIME or FREQUENCY context open. -/
theorem watch_timeNotDue (h : (s.ctx n).TimeNotDue now) : ((s.watch n).ctx n).TimeNotDue now := by
  unfold State.watch
  split
  · next hw =>
    intro hk hm
    rw [(ContextOnly.watchExpires s n).config] at hk hm
    have hwaits := (s.ctx n).watched_iff.mp hw.1
    simp [Context.Discards, Context.ManualOpen, hk, hm] at hwaits
  · exact h

theorem watch_gateNotDue (h : (s.ctx n).GateNotDue now) : ((s.watch n).ctx n).GateNotDue now := by
  unfold State.watch
  split
  · next hw =>
    obtain ⟨hsingle, hcontinuous⟩ := State.watchExpires_state hw.1
    intro hk hst
    rw [(ContextOnly.watchExpires s n).config] at hk
    cases hr : (s.ctx n).config.runMode with
    | single =>
      rw [hsingle hr] at hst
      obtain hend | hend := endState_cases s n <;> rw [hend] at hst <;> cases hst
    | continuous =>
      obtain hstart | ⟨hmanual, -⟩ := (hcontinuous hr).2
      · rw [hstart] at hst
        cases hst
      · exact absurd (hk.symm.trans hmanual.1) nofun
  · exact h

/-- The events that a tick reaches at a context leave nothing of it due at the tick (R14). -/
theorem reachContext_nothingDue (s : State) (n : Fin 16) : ((s.reachContext n).ctx n).NothingDue s.clock.timescale := by
  have hclock1 : (s.armTime n).clock = s.clock := (ContextOnly.armTime s n).clock
  have hclock2 : ((s.armTime n).gateExpiryAtLast n).clock = s.clock := (ContextOnly.gateExpiryAtLast _ n).clock.trans hclock1
  have hclock3 : (((s.armTime n).gateExpiryAtLast n).totalExpiry n).clock = s.clock := (ContextOnly.totalExpiry _ n).clock.trans hclock2
  have harm1 := armNotDue_of_staysUnarmed (ContextOnly.gateExpiryAtLast _ n).config (.gateExpiryAtLast _ n) (armTime_armNotDue s n)
  have harm2 := armNotDue_of_staysUnarmed (ContextOnly.totalExpiry _ n).config (.totalExpiry _ n) harm1
  have hgate := totalExpiry_gateNotDue (gateExpiryAtLast_gateNotDue (s.armTime n) n)
  have htime := totalExpiry_timeNotDue ((s.armTime n).gateExpiryAtLast n) n
  have hwatch := watch_watchNotDue (((s.armTime n).gateExpiryAtLast n).totalExpiry n) n
  rw [hclock1] at hgate
  rw [hclock2] at htime
  rw [hclock3] at hwatch
  exact ⟨armNotDue_of_staysUnarmed (ContextOnly.watch _ n).config (.watch _ n) harm2, hwatch, watch_timeNotDue htime, watch_gateNotDue hgate⟩

/-! ### The whole tick -/

theorem foldl_reachContext_clock (l : List (Fin 16)) (s : State) : (l.foldl (fun t n => t.reachContext n) s).clock = s.clock := by
  induction l generalizing s with
  | nil => rfl
  | cons m rest ih => exact (ih _).trans (ContextOnly.reachContext s m).clock

theorem foldl_reachContext_bus (l : List (Fin 16)) (s : State) : (l.foldl (fun t n => t.reachContext n) s).bus = s.bus := by
  induction l generalizing s with
  | nil => rfl
  | cons m rest ih => exact (ih _).trans (ContextOnly.reachContext s m).bus

theorem foldl_reachContext_of_not_mem {l : List (Fin 16)} (h : n ∉ l) (s : State) :
    (l.foldl (fun t n => t.reachContext n) s).ctx n = s.ctx n := by
  induction l generalizing s with
  | nil => rfl
  | cons m rest ih =>
    rw [List.mem_cons, not_or] at h
    exact (ih h.2 _).trans ((ContextOnly.reachContext s m).others n h.1)

/-- Each context of a list is left with nothing due: its own turn leaves nothing, the later turns leave it. -/
theorem foldl_reachContext_nothingDue {l : List (Fin 16)} (hl : l.Nodup) (h : n ∈ l) (s : State) :
    ((l.foldl (fun t n => t.reachContext n) s).ctx n).NothingDue s.clock.timescale := by
  induction l generalizing s with
  | nil => cases h
  | cons m rest ih =>
    obtain ⟨hm, hrest⟩ := List.nodup_cons.mp hl
    rw [List.foldl_cons]
    by_cases hn : n = m
    · rw [hn, foldl_reachContext_of_not_mem hm]
      exact reachContext_nothingDue s m
    · have hnext := ih hrest ((List.mem_cons.mp h).resolve_left hn) (s.reachContext m)
      rwa [(ContextOnly.reachContext s m).clock] at hnext

theorem foldl_applyItem_bus (i : BusItem) (l : List (Fin 16)) (s : State) : (l.foldl (fun u n => u.applyItem n i) s).bus = s.bus := by
  induction l generalizing s with
  | nil => rfl
  | cons m rest ih => exact (ih _).trans (ContextOnly.applyItem s m i).bus

theorem State.deliverOverdue_bus (s : State) : s.deliverOverdue.bus = s.bus.filter fun i => !s.overdue i := by
  have hfold (l : List BusItem) (t : State) :
      (l.foldl (fun t i => i.recipients.foldl (fun u n => u.applyItem n i) t) t).bus = t.bus := by
    induction l generalizing t with
    | nil => rfl
    | cons i rest ih => exact (ih _).trans (foldl_applyItem_bus i i.recipients t)
  exact hfold _ _

theorem State.shortTimeout_contexts (s : State) : s.shortTimeout.contexts = s.contexts ∧ s.shortTimeout.bus = s.bus := by
  obtain h | ⟨r, -, -, -, -, h⟩ := s.shortTimeout_eq <;> rw [h] <;> exact ⟨rfl, rfl⟩

theorem State.searchTimeout_contexts (s : State) : s.searchTimeout.contexts = s.contexts ∧ s.searchTimeout.bus = s.bus := by
  unfold State.searchTimeout State.endSearch
  split
  · split <;> exact ⟨rfl, rfl⟩
  · exact ⟨rfl, rfl⟩

/-- What is taken at a tick leaves no item whose delay comes to 250 ticks (R28). -/
theorem settleTick_bus {i : BusItem} (h : i ∈ s.settleTick.bus) : s.clock.elapsed + 1 < i.edgeTick + 250 := by
  rw [State.settleTick, (State.searchTimeout_contexts _).2, (State.shortTimeout_contexts _).2, foldl_reachContext_bus,
    State.deliverOverdue_bus] at h
  obtain ⟨-, hdue⟩ := List.mem_filter.mp h
  simpa [State.overdue, Config.deliveryLimit] using hdue

/-- What is taken at a tick leaves no context with something due (R14). -/
theorem settleTick_nothingDue (s : State) (n : Fin 16) : (s.settleTick.ctx n).NothingDue s.clock.timescale := by
  have hdue := foldl_reachContext_nothingDue (List.nodup_finRange 16) (List.mem_finRange n) s.deliverOverdue
  rw [(TickOnly.deliverOverdue s).timescale] at hdue
  rwa [State.settleTick, State.ctx_of_contexts (State.searchTimeout_contexts _).1, State.ctx_of_contexts (State.shortTimeout_contexts _).1]

/-- The step of the timescale leaves the bus. -/
theorem State.advance_bus (s : State) : s.advance.bus = s.bus := by
  unfold State.advance
  dsimp only
  split <;> rfl

/-- A load by SYNC leaves the contexts, and the items with their edge ticks. -/
theorem State.syncLoaded_contexts (s : State) :
    s.syncLoaded.contexts = s.contexts ∧ ∀ i ∈ s.syncLoaded.bus, ∃ j ∈ s.bus, i.edgeTick = j.edgeTick := by
  refine ⟨rfl, fun i hi => ?_⟩
  obtain ⟨j, hj, rfl⟩ := List.mem_map.mp (show i ∈ s.bus.map _ from hi)
  exact ⟨j, hj, by split <;> rfl⟩

theorem State.raise_syncOff (s : State) (id : Fin 20) (k : Fin 4) :
    (s.raise id k).syncOff.contexts = s.contexts ∧ (s.raise id k).syncOff.clock.elapsed = s.clock.elapsed ∧
      (s.raise id k).syncOff.bus = s.bus :=
  ⟨rfl, rfl, rfl⟩

/-- The part after a tick, whichever: the contexts as `settleTick` leaves them, its items with their edge ticks, one elapsed tick on. -/
theorem exec_tick {e : Instr} (hlow : s.rstnLow = false) (he : e = .coarseTick ∨ (e = .syncEdge ∧ s.clock.syncMode = .loadOnRise)) :
    ∃ t, exec e s = .next t ∧ t.contexts = s.settleTick.contexts ∧ t.clock.elapsed = s.clock.elapsed + 1 ∧
      ∀ i ∈ t.bus, ∃ j ∈ s.settleTick.bus, i.edgeTick = j.edgeTick := by
  have helapsed : s.settleTick.clock.elapsed = s.clock.elapsed := (TickOnly.settleTick s).elapsed
  obtain ⟨-, -, -, -, hctx⟩ := s.settleTick.advance_eq
  have hadvance : ∀ i ∈ s.settleTick.advance.bus, ∃ j ∈ s.settleTick.bus, i.edgeTick = j.edgeTick := fun i hi =>
    ⟨i, s.settleTick.advance_bus ▸ hi, rfl⟩
  obtain rfl | ⟨rfl, hm⟩ := he
  · exact ⟨_, exec_coarseTick hlow, hctx, by rw [s.settleTick.advance_counts.1, helapsed], hadvance⟩
  · cases ha : s.settleTick.anyActive
    · obtain ⟨hkept, hbus⟩ := s.settleTick.syncLoaded_contexts
      exact ⟨s.settleTick.syncLoaded, (exec_syncEdge hlow hm).2 ha, hkept, s.settleTick.syncLoaded_counts.2.1.trans (by rw [helapsed]), hbus⟩
    · obtain ⟨hkept, htime, hbus⟩ := s.settleTick.advance.raise_syncOff sourceSync causeRefused
      refine ⟨_, (exec_syncEdge hlow hm).1 ha, hkept.trans hctx, ?_, ?_⟩
      · rw [htime, s.settleTick.advance_counts.1, helapsed]
      · rw [hbus]
        exact hadvance

end

theorem State.gateExpiry_of_not {s : State} {n : Fin 16}
    (h : (s.ctx n).state ≠ .gating ∨ 250 ≤ (s.clock.timescale - (s.ctx n).live.expiryTick).toNat) : s.gateExpiry n = s := by
  refine if_neg ?_
  rintro ⟨-, hst, hwithin⟩
  obtain h | h := h
  · exact h hst
  · exact absurd hwithin (Nat.not_lt.mpr h)

/-- Settles O40: each event by its own equation, the tick by `settleTick_bus` and `settleTick_nothingDue`. -/
theorem reachedTicksAndArmEdges : Obligations.ReachedTicksAndArmEdges := by
  refine ⟨fun s n hst hm ht => ⟨s.fulfilNow n, congrArg Host.Outcome.next (if_pos ⟨hst, hm, ht⟩), State.fulfilNow_fulfilled s n⟩,
    fun s n hk hst hlt => congrArg Host.Outcome.next (if_pos ⟨hk, hst, hlt⟩),
    fun s n h => congrArg Host.Outcome.next (State.gateExpiry_of_not h),
    fun s n hk hm hst ht => ?_, fun s n c i x harr hc hx hl ha hk hst hm hchannel htakes hlater => ?_, fun e s hlow he => ?_⟩
  · refine ⟨s.totalClose n s.now (s.tickFlags n), congrArg Host.Outcome.next (if_pos ⟨hk, hm, hst, ht⟩), ?_⟩
    rw [decide_not]
    exact State.totalClose_closed (by rw [hst]; nofun) s.now (s.tickFlags n)
  · have hedge := State.armMessage_of_edge (s := handed s n c) (n := n) (m := i.message x) hst hm htakes hlater
    rw [show tickOfStamp (i.message x).stamp = i.tick from tickOfStamp_stampOf _ _] at hedge
    rw [exec_stampedEdgeMessage, State.deliver_message_armed harr hc hx hl ha hst, if_pos ⟨hk, hm, hchannel⟩, hedge]
    exact ⟨_, rfl, State.fulfil_fulfilled (handed s n c) n _ _ _⟩
  · obtain ⟨t, hexec, hctx, helapsed, hbus⟩ := exec_tick hlow he
    refine ⟨t, hexec, fun i hi => ?_, fun n => ?_⟩
    · obtain ⟨j, hj, hedge⟩ := hbus i hi
      rw [helapsed, hedge]
      exact settleTick_bus hj
    · obtain ⟨harm, hwatch, htime, hgate⟩ := settleTick_nothingDue s n
      rw [State.ctx_of_contexts hctx]
      refine ⟨harm, fun hwaits => hwatch ?_, htime, hgate⟩
      obtain h | h | h | h := hwaits
      · exact .inl (.inl h)
      · exact .inl (.inr (.inl h))
      · exact .inl (.inr (.inr h))
      · exact .inr h

end Sys2Proof.Machine
end

section
/-! Items that a context lets pass (spec/02_input_channels.md, section 2.6), and which items may not arrive yet (O42). -/

namespace Sys2Proof.Machine

open Sys2Proof.Safety

/-! ### When an item may arrive -/

theorem Context.stopLimit_eq (c : Context) : c.stopLimit = c.live.startStamp + BitVec.ofNat 60 (4096 * c.config.stopDelay.toNat) := by
  rw [Context.stopLimit, delayStamp, Nat.mul_comm]

section
variable {s : State} {n : Fin 16} {c : Fin 8} {i : BusItem}

theorem Context.timesOutFirst_iff (d : Context) (now : Tick) :
    d.timesOutFirst now = true ↔
      d.config.kind = .interval ∧ d.state = .gating ∧ d.live.deadline = some now ∧ laterTick now (tickOfStamp d.stopLimit) = false := by
  simp [Context.timesOutFirst, and_assoc]

theorem Context.endsInterval_iff (d : Context) (i : BusItem) :
    d.endsInterval i = true ↔
      i.channel = d.config.channelB ∧ d.config.senseB.takes i.sense = true ∧
        ((∃ x, i.stamped = some x ∧ laterStamp (stampOf i.tick x.fine) d.live.startStamp = true ∧
            atLeastStamp (stampOf i.tick x.fine) d.stopLimit = true) ∨
          (i.stamped = none ∧ laterStamp (stampOfTick i.tick) d.stopLimit = true)) := by
  unfold Context.endsInterval
  cases i.stamped <;> simp [and_assoc]

theorem waitsForExpiry_iff :
    WaitsForExpiry s n i ↔
      i.edgeTick = s.clock.elapsed ∧ (s.ctx n).timesOutFirst s.clock.timescale = true ∧ (s.ctx n).endsInterval i = true := by
  unfold WaitsForExpiry
  simp only [Context.timesOutFirst_iff, Context.endsInterval_iff, Context.stopLimit_eq, and_assoc]

theorem mayArrive_iff :
    s.mayArrive n i = true ↔
      i.edgeTick ≤ s.clock.elapsed ∧ ¬WaitsForExpiry s n i ∧ ∀ j ∈ s.bus, n ∈ j.recipients → i.time ≤ j.time + 8192 := by
  simp only [State.mayArrive, waitsForExpiry_iff, Bool.and_eq_true, decide_eq_true_eq, Bool.not_eq_true', List.all_eq_true,
    Bool.or_eq_true, List.contains_eq_mem, and_assoc, Bool.and_eq_false_imp, not_and, Bool.not_eq_true, decide_eq_false_iff_not, imp_iff_not_or, or_assoc]
  rfl

theorem State.deliver_of_not_mayArrive (hnext : s.nextItem n c = some i) (h : ¬s.mayArrive n i = true) (stamped : Bool) :
    s.deliver n c stamped = s := by
  rw [State.deliver, hnext]
  exact if_neg fun hi => h hi.2

theorem State.deliver_of_arriving (h : Arriving s n c i) : s.deliver n c i.stamped.isSome = (handed s n c).applyItem n i := by
  rw [State.deliver, h.1]
  exact if_pos ⟨rfl, h.2⟩

theorem State.channel_of_nextItem (h : s.nextItem n c = some i) : i.channel = c := by
  have hfound := List.find?_some h
  simp only [Bool.and_eq_true, decide_eq_true_eq] at hfound
  exact hfound.1

/-! ### What lets an item pass -/

/-- An item without effect on its context passes, whichever its form. -/
theorem exec_item_passes (h : Arriving s n c i) (hpass : (handed s n c).applyItem n i = handed s n c) :
    (i.stamped ≠ none → exec (.stampedEdgeMessage n c) s = .next (handed s n c)) ∧
      (i.stamped = none → exec (.unstampedEdgeNotice n c) s = .next (handed s n c)) := by
  have hdeliver := (State.deliver_of_arriving h).trans hpass
  refine ⟨fun hx => ?_, fun hx => ?_⟩
  · rw [exec_stampedEdgeMessage, ← Option.isSome_iff_ne_none.mpr hx, hdeliver]
  · rw [exec_unstampedEdgeNotice, ← hdeliver, hx, Option.isSome_none]

/-- An item that each role of the context on its channel lets pass has no effect. -/
theorem State.applyItem_of_roles (h : ∀ r ∈ s.rolesOn n i.channel,
      (∀ x, i.stamped = some x → s.takeMessage n (i.message x) r = s) ∧ (i.stamped = none → s.takeNotice n i.notice r = s)) :
    s.applyItem n i = s := by
  unfold State.applyItem
  split
  · rfl
  · cases hx : i.stamped with
    | some x => exact foldl_of_fixed fun r hr => (h r hr).1 x hx
    | none => exact foldl_of_fixed fun r hr => (h r hr).2 hx

theorem setsAside_iff (l : Live) (i : BusItem) :
    l.setsAside i = true ↔ i.edgeTick ≤ l.armElapsed ∨ (i.stamped = none ∧ i.edgeTick < l.fulfilElapsed) := by
  simp [Live.setsAside]

/-- The roles that a listed context holds on a channel (R68). -/
theorem role_of_listedOn (hl : ListedOn s n c) {r : Role} (hr : r ∈ s.rolesOn n c) :
    (s.ctx n).config.kind ≠ .none ∧ (r = .a → (s.ctx n).config.channelA = c) ∧
      (r = .b → holdsChannelB (s.ctx n).config.kind (s.ctx n).config.gateMode = true ∧ (s.ctx n).config.channelB = c) ∧
      (r = .arm → (s.ctx n).config.armMode = .onEdge ∧ (s.ctx n).config.armChannel = c) := by
  rw [hl, map_entriesOn] at hr
  split at hr
  · cases hr
  · next hk =>
    simp only [List.mem_append, List.mem_ite_nil_right, List.mem_singleton] at hr
    obtain (⟨h, rfl⟩ | ⟨h, rfl⟩) | ⟨h, rfl⟩ := hr
    · exact ⟨hk, fun _ => h, nofun, nofun⟩
    · exact ⟨hk, nofun, fun _ => h, nofun⟩
    · exact ⟨hk, nofun, nofun, fun _ => h⟩

/-! ### Role by role -/

/-- No state of a context that has no run in progress takes part in anything (R28). -/
theorem State.take_of_no_run (h : (s.ctx n).state = .free ∨ (s.ctx n).state = .idle ∨ (s.ctx n).state = .settling) (r : Role) :
    (∀ m, s.takeMessage n m r = s) ∧ ∀ v, s.takeNotice n v r = s := by
  constructor
  · intro m
    obtain h | h | h := h <;>
      simp [State.takeMessage, State.frequencyMessage, State.intervalMessageA, State.intervalMessageB, State.totalMessageB,
        State.windowItem, State.armMessage, h] <;> split <;> rfl
  · intro v
    obtain h | h | h := h <;>
      simp [State.takeNotice, State.frequencyNotice, State.intervalNoticeB, State.totalNoticeB, State.windowItem, h] <;> split <;> rfl

/-- A notice passes an ARMED context under every role (R79). -/
theorem State.takeNotice_of_armed (h : (s.ctx n).state = .armed) (v : Notice) (r : Role) : s.takeNotice n v r = s := by
  simp [State.takeNotice, State.frequencyNotice, State.intervalNoticeB, State.totalNoticeB, State.windowItem, h]
  split <;> rfl

theorem State.armMessage_of_not_edge {m : Message}
    (h : ¬((s.ctx n).config.armSense.takes m.sense = true ∧ laterStamp m.stamp (stampOfTick (s.ctx n).live.armTick) = true)) :
    s.armMessage n m = s :=
  if_neg fun hi => h hi.2.2

theorem State.frequencyNotice_of_not_takes {v : Notice} (h : (s.ctx n).config.senseA.takes v.sense = false) : s.frequencyNotice n v = s := by
  simp [State.frequencyNotice, h]

theorem State.frequencyNotice_of_starting (h : (s.ctx n).state = .starting) (v : Notice) : s.frequencyNotice n v = s := by
  simp [State.frequencyNotice, h]

theorem State.intervalMessageA_of_not (m : Message)
    (h : (s.ctx n).config.senseA.takes m.sense = false ∨ (s.ctx n).state = .gating ∨ laterStamp m.stamp (s.ctx n).live.floor = false) :
    s.intervalMessageA n m = s := by
  refine if_neg ?_
  rintro ⟨hst, htakes, hlater⟩
  obtain h | h | h := h
  · exact absurd (htakes.symm.trans h) nofun
  · exact absurd (hst.symm.trans h) nofun
  · exact absurd (hlater.symm.trans h) nofun

theorem State.intervalMessageB_of_not_takes {m : Message} (h : (s.ctx n).config.senseB.takes m.sense = false) : s.intervalMessageB n m = s := by
  simp [State.intervalMessageB, h]

theorem State.intervalNoticeB_of_not_takes {v : Notice} (h : (s.ctx n).config.senseB.takes v.sense = false) : s.intervalNoticeB n v = s := by
  simp [State.intervalNoticeB, h]

theorem State.windowItem_of_not_takes {e : EdgeSense} (hst : (s.ctx n).state = .starting) (h : (s.ctx n).config.senseB.takes e = false)
    (b : Boundary) (later ref blind : Bool) : s.windowItem n e b later ref blind = s := by
  simp [State.windowItem, hst, h]

/-! ### The kinds in a run -/

/-- The lines on which an item passes a context in a run, kind by kind. -/
def Context.PassesItem (d : Context) (c : Fin 8) (i : BusItem) : Prop :=
  (d.config.kind = .frequency ∧
    (d.config.channelA ≠ c ∨ d.config.senseA.takes i.sense = false ∨ (d.state = .starting ∧ i.stamped = none))) ∨
  (d.config.kind = .interval ∧
    (d.config.channelA ≠ c ∨ d.config.senseA.takes i.sense = false ∨ d.state = .gating ∨ i.stamped = none) ∧
    (d.config.channelB ≠ c ∨ d.config.senseB.takes i.sense = false)) ∨
  (d.config.kind = .totalize ∧
    (d.config.gateMode ≠ .window ∨ d.config.channelB ≠ c ∨ (d.state = .starting ∧ d.config.senseB.takes i.sense = false)))

/-- Role A lets pass an item that its kind does not wait for. -/
theorem take_a_of_passes (hA : (s.ctx n).config.channelA = c) (h : (s.ctx n).PassesItem c i) :
    (∀ x, i.stamped = some x → s.takeMessage n (i.message x) .a = s) ∧ (i.stamped = none → s.takeNotice n i.notice .a = s) := by
  obtain ⟨hk, h⟩ | ⟨hk, h, -⟩ | ⟨hk, -⟩ := h
  · simp only [State.takeMessage, State.takeNotice, hk]
    obtain h | h | ⟨hst, hx⟩ := h
    · exact absurd hA h
    · exact ⟨fun x _ => State.frequencyMessage_of_not_takes (m := i.message x) h, fun _ => State.frequencyNotice_of_not_takes (v := i.notice) h⟩
    · exact ⟨fun x hsome => (nomatch hx.symm.trans hsome), fun _ => State.frequencyNotice_of_starting hst _⟩
  · simp only [State.takeMessage, State.takeNotice, hk]
    refine ⟨fun x hx => ?_, fun _ => trivial⟩
    obtain h | h | h | h := h
    · exact absurd hA h
    · exact State.intervalMessageA_of_not (i.message x) (.inl h)
    · exact State.intervalMessageA_of_not (i.message x) (.inr (.inl h))
    · exact nomatch hx.symm.trans h
  · simp only [State.takeMessage, State.takeNotice, hk, implies_true, and_self]

/-- Role B lets pass an item that its kind does not wait for. -/
theorem take_b_of_passes (hB : holdsChannelB (s.ctx n).config.kind (s.ctx n).config.gateMode = true ∧ (s.ctx n).config.channelB = c)
    (h : (s.ctx n).PassesItem c i) :
    (∀ x, i.stamped = some x → s.takeMessage n (i.message x) .b = s) ∧ (i.stamped = none → s.takeNotice n i.notice .b = s) := by
  obtain ⟨hk, -⟩ | ⟨hk, -, h⟩ | ⟨hk, h⟩ := h
  · rw [hk] at hB
    exact nomatch hB.1
  · simp only [State.takeMessage, State.takeNotice, hk]
    have htakes := h.resolve_left (not_not.mpr hB.2)
    exact ⟨fun x _ => State.intervalMessageB_of_not_takes (m := i.message x) htakes,
      fun _ => State.intervalNoticeB_of_not_takes (v := i.notice) htakes⟩
  · simp only [State.takeMessage, State.takeNotice, hk, State.totalMessageB, State.totalNoticeB]
    have hm : (s.ctx n).config.gateMode = .window := by simpa [hk, holdsChannelB] using hB.1
    obtain h | h | ⟨hst, htakes⟩ := h
    · exact absurd hm h
    · exact absurd hB.2 h
    · rw [if_pos hm]
      exact ⟨fun x _ => (if_pos hm).trans (State.windowItem_of_not_takes (e := (i.message x).sense) hst htakes _ _ _ _),
        fun _ => State.windowItem_of_not_takes (e := i.notice.sense) hst htakes _ _ _ _⟩

end

/-- Settles O42: an item passes where it is set aside or where each role lets it pass; whether it may arrive is `mayArrive_iff`. -/
theorem unawaitedItemsPass : Obligations.UnawaitedItemsPass := by
  refine ⟨fun s n c i harr => ?_, fun s n c i hnext => ⟨fun h => ?_, fun hreached hcross hwaits => ?_⟩⟩
  · intro d arms running passes hpass
    refine exec_item_passes harr ?_
    have hchannel : i.channel = c := State.channel_of_nextItem harr.1
    have hnorun (h : d.state = .free ∨ d.state = .idle ∨ d.state = .settling) : (handed s n c).applyItem n i = handed s n c :=
      have hquiet := State.take_of_no_run (s := handed s n c) (n := n) h
      State.applyItem_of_roles fun r _ => ⟨fun x _ => (hquiet r).1 _, fun _ => (hquiet r).2 _⟩
    have haside (h : d.live.setsAside i = true) : (handed s n c).applyItem n i = handed s n c := State.applyItem_of_setsAside (s := handed s n c) h
    obtain h | h | h | h | ⟨hx, h⟩ | ⟨hl, h⟩ := hpass
    · exact hnorun (.inl h)
    · exact hnorun (.inr (.inl h))
    · exact hnorun (.inr (.inr h))
    · exact haside ((setsAside_iff _ _).mpr (.inl (Nat.le_of_not_lt h)))
    · exact haside ((setsAside_iff _ _).mpr (.inr ⟨hx, Nat.lt_of_not_le h⟩))
    · refine State.applyItem_of_roles fun r hr => ?_
      rw [hchannel] at hr
      obtain ⟨-, hA, hB, harm⟩ := role_of_listedOn (s := handed s n c) hl hr
      obtain ⟨hst, hnot⟩ | ⟨hrun, hp⟩ := h
      · refine ⟨fun x hx => ?_, fun _ => State.takeNotice_of_armed (s := handed s n c) hst _ r⟩
        by_cases hrole : r = .arm
        · obtain ⟨hm, hc⟩ := harm hrole
          rw [hrole]
          exact State.armMessage_of_not_edge (s := handed s n c) (m := i.message x) fun ⟨ht, hlater⟩ => hnot ⟨hm, hc, ht, x, hx, hlater⟩
        · exact State.takeMessage_of_armed (s := handed s n c) hst _ hrole
      · cases r with
        | a => exact take_a_of_passes (s := handed s n c) (hA rfl) hp
        | b => exact take_b_of_passes (s := handed s n c) (hB rfl) hp
        | arm =>
          have hst : d.state ≠ .armed := by obtain h | h | h := hrun <;> rw [h] <;> nofun
          exact ⟨fun x _ => State.takeMessage_arm_of_not_armed (s := handed s n c) hst _, fun _ => by unfold State.takeNotice; rfl⟩
  · have hnot : ¬s.mayArrive n i = true := by
      rw [mayArrive_iff]
      rintro ⟨hreached, hwaits, hcross⟩
      obtain h | ⟨j, hj, hn, hlt⟩ | h := h
      · exact absurd hreached (Nat.not_le.mpr h)
      · exact absurd (hcross j hj hn) (Nat.not_le.mpr hlt)
      · exact hwaits h
    rw [exec_stampedEdgeMessage, exec_unstampedEdgeNotice, State.deliver_of_not_mayArrive hnext hnot, State.deliver_of_not_mayArrive hnext hnot]
    exact ⟨rfl, rfl⟩
  · exact ⟨hnext, mayArrive_iff.mpr ⟨hreached, hwaits, hcross⟩⟩

end Sys2Proof.Machine
end

section
/-! Notices (spec/05_frequency_measurement.md, section 5.3, and spec/06_time_interval_measurement.md, section 6.3; O45) and the windows of a
TOTALIZE context (spec/07_totalizing.md, section 7.3; O49). -/

namespace Sys2Proof.Machine

open Sys2Proof.Safety

section
variable {s : State} {n : Fin 16} {c : Fin 8} {i : BusItem}

/-! ### Notices to a FREQUENCY context -/

/-- A notice of an open gate is tallied, and sets BLIND where it is later than the expiry tick (R93, R96). -/
theorem State.frequencyNotice_eq {v : Notice} (h : (s.ctx n).config.senseA.takes v.sense = true) (hst : (s.ctx n).gateOpen) :
    s.frequencyNotice n v =
      s.setCtx n { s.ctx n with
        live := { (s.ctx n).live with
          edgeTally := (s.ctx n).tallied
          flags := { (s.ctx n).live.flags with
            blind := (s.ctx n).live.flags.blind || laterTick v.tick (s.ctx n).live.expiryTick } } } := by
  rw [State.frequencyNotice_of_open h hst, State.tallyItem_eq]
  cases hlater : laterTick v.tick (s.ctx n).live.expiryTick
  · rw [Bool.or_false]
    rfl
  · rw [Bool.or_true, if_pos rfl, State.modLive, State.modCtx_setCtx]

/-! ### Notices to an INTERVAL context -/

theorem State.noticeAB_interval (hk : (s.ctx n).config.kind = .interval) (c : Fin 8) (v : Notice) :
    s.noticeAB n c v = if (s.ctx n).config.channelB = c then s.intervalNoticeB n v else s := by
  simp [State.noticeAB, State.takeNotice, holdsChannelB, hk]

theorem periodMode_iff (g : CtxConfig) : g.periodMode = true ↔ g.channelA = g.channelB ∧ g.senseA = g.senseB := by
  simp [CtxConfig.periodMode]

theorem State.intervalNoticeB_of_gating {v : Notice} (h : (s.ctx n).config.senseB.takes v.sense = true) (hst : (s.ctx n).state = .gating) :
    s.intervalNoticeB n v = if laterStamp (stampOfTick v.tick) (s.ctx n).stopLimit then s.intervalDrop n v.tick else s := by
  simp only [State.intervalNoticeB, h, hst, if_true]

theorem State.intervalNoticeB_of_starting {v : Notice} (h : (s.ctx n).config.senseB.takes v.sense = true)
    (hst : (s.ctx n).state = .starting) :
    s.intervalNoticeB n v =
      if !(s.ctx n).config.periodMode && laterStamp (stampOfTick v.tick) (s.ctx n).live.floor then
        s.modLive n fun l => { l with heldNotice := some v.tick }
      else s := by
  simp only [State.intervalNoticeB, h, hst, if_true]

/-- A dropped interval: BLIND, and the wait in STARTING from the notice's tick (R119). -/
theorem State.intervalDrop_eq (s : State) (n : Fin 16) (k : Tick) :
    s.intervalDrop n k =
      s.setCtx n { s.ctx n with
        state := .starting
        live := { (s.ctx n).live with
          heldStop := none
          heldNotice := none
          floor := stampOfTick k
          entryTick := k
          deadline := some (k + watchLength (s.ctx n))
          flags := { (s.ctx n).live.flags with blind := true } } } := by
  rw [State.intervalDrop, State.intervalWait_eq, State.modLive, State.modCtx, State.setCtx_setCtx, State.ctx_setCtx_self]
  rfl

/-- A notice later than the stop limit drops the interval in progress (R119). -/
theorem State.intervalNoticeB_drops {v : Notice} (h : (s.ctx n).config.senseB.takes v.sense = true) (hst : (s.ctx n).state = .gating)
    (hlimit : laterStamp (stampOfTick v.tick)
      ((s.ctx n).live.startStamp + BitVec.ofNat 60 (4096 * (s.ctx n).config.stopDelay.toNat)) = true) :
    s.intervalNoticeB n v = s.intervalDrop n v.tick := by
  rw [State.intervalNoticeB_of_gating h hst, Context.stopLimit_eq, hlimit]
  rfl

/-- A notice later than the floor is held in STARTING outside period mode (R112). -/
theorem State.intervalNoticeB_holds {v : Notice} (h : (s.ctx n).config.senseB.takes v.sense = true) (hst : (s.ctx n).state = .starting)
    (hperiod : ¬((s.ctx n).config.channelA = (s.ctx n).config.channelB ∧ (s.ctx n).config.senseA = (s.ctx n).config.senseB))
    (hfloor : laterStamp (stampOfTick v.tick) (s.ctx n).live.floor = true) :
    s.intervalNoticeB n v = s.setCtx n { s.ctx n with live := { (s.ctx n).live with heldNotice := some v.tick } } := by
  have hnot : (s.ctx n).config.periodMode = false := Bool.eq_false_iff.mpr (mt (periodMode_iff _).mp hperiod)
  rw [State.intervalNoticeB_of_starting h hst, hnot, hfloor]
  rfl

/-- Any other notice of role B passes (R116). -/
theorem State.intervalNoticeB_passes {v : Notice} (h : (s.ctx n).config.senseB.takes v.sense = true)
    (hpass : ((s.ctx n).state = .gating ∧ laterStamp (stampOfTick v.tick)
        ((s.ctx n).live.startStamp + BitVec.ofNat 60 (4096 * (s.ctx n).config.stopDelay.toNat)) = false) ∨
      ((s.ctx n).state = .starting ∧ (laterStamp (stampOfTick v.tick) (s.ctx n).live.floor = false ∨
        ((s.ctx n).config.channelA = (s.ctx n).config.channelB ∧ (s.ctx n).config.senseA = (s.ctx n).config.senseB)))) :
    s.intervalNoticeB n v = s := by
  obtain ⟨hst, hlimit⟩ | ⟨hst, hfloor | hperiod⟩ := hpass
  · rw [State.intervalNoticeB_of_gating h hst, Context.stopLimit_eq, hlimit]
    rfl
  · rw [State.intervalNoticeB_of_starting h hst, hfloor, Bool.and_false]
    rfl
  · rw [State.intervalNoticeB_of_starting h hst, (periodMode_iff _).mpr hperiod]
    rfl

end

/-- Settles O45: the notice is tallied and marks, drops the interval, is held, or passes, as the state of the context has it. -/
theorem noticesMarkAndDrop : Obligations.NoticesMarkAndDrop := by
  refine ⟨fun s n c i harr hc hx hl ha hk hopen hA htakes => ⟨fun hacts => ?_, fun hbefore => ?_⟩,
    fun s n ch i harr hc hx hl ha hk hB htakes => ?_⟩
  · rw [exec_unstampedEdgeNotice, State.deliver_notice_ab harr hc hx hl ha hacts (by rw [hk]; nofun),
      State.noticeAB_frequency (s := handed s n c) hk, handed_ctx, if_pos hA,
      State.frequencyNotice_eq (s := handed s n c) (v := i.notice) htakes hopen]
    rfl
  · rw [exec_unstampedEdgeNotice, State.deliver_notice_before harr hx hbefore]
  · have hbefore (h : ¬NotBeforeFulfilment s n i) : exec (.unstampedEdgeNotice n ch) s = .next (handed s n ch) := by
      rw [exec_unstampedEdgeNotice, State.deliver_notice_before harr hx h]
    have hacts (h : NotBeforeFulfilment s n i) :
        exec (.unstampedEdgeNotice n ch) s = .next ((handed s n ch).intervalNoticeB n i.notice) := by
      rw [exec_unstampedEdgeNotice, State.deliver_notice_ab harr hc hx hl ha h (by rw [hk]; nofun),
        State.noticeAB_interval (s := handed s n ch) hk, handed_ctx, if_pos hB]
    refine ⟨fun hst h hlimit => ?_, fun hst hperiod h hfloor => ?_, fun hpass => ?_⟩
    · rw [hacts h, State.intervalNoticeB_drops (s := handed s n ch) (v := i.notice) htakes hst hlimit, State.intervalDrop_eq]
      rfl
    · rw [hacts h, State.intervalNoticeB_holds (s := handed s n ch) (v := i.notice) htakes hst hperiod hfloor]
      rfl
    · by_cases h : NotBeforeFulfilment s n i
      · rw [hacts h, State.intervalNoticeB_passes (s := handed s n ch) (v := i.notice) htakes]
        obtain ⟨hst, hlimit | hno⟩ | ⟨hst, hfloor | hperiod | hno⟩ := hpass
        · exact .inl ⟨hst, hlimit⟩
        · exact absurd h hno
        · exact .inr ⟨hst, .inl hfloor⟩
        · exact .inr ⟨hst, .inr hperiod⟩
        · exact absurd h hno
      · exact hbefore h

/-! ### Windows -/

section
variable {s : State} {n : Fin 16} {ch : Fin 8} {i : BusItem}

/-- A window acts on the items of role B alone. -/
theorem State.takeAB_window (hk : (s.ctx n).config.kind = .totalize) (hm : (s.ctx n).config.gateMode = .window)
    (hB : (s.ctx n).config.channelB = ch) (m : Message) :
    s.takeAB n ch m =
      s.windowItem n m.sense ⟨tickOfStamp m.stamp, m.edgeTick⟩ (laterStamp m.stamp (s.ctx n).live.fulfilStamp) m.unlocked false := by
  simp [State.takeAB, State.takeMessage, State.totalMessageB, holdsChannelB, hk, hm, hB]

theorem State.noticeAB_window (hk : (s.ctx n).config.kind = .totalize) (hm : (s.ctx n).config.gateMode = .window)
    (hB : (s.ctx n).config.channelB = ch) (v : Notice) :
    s.noticeAB n ch v =
      s.windowItem n v.sense ⟨v.tick, v.edgeTick⟩ (laterTick v.tick (s.ctx n).live.fulfilTick) (!s.locked) true := by
  simp [State.noticeAB, State.takeNotice, State.totalNoticeB, holdsChannelB, hk, hm, hB]

theorem State.windowItem_of_starting (hst : (s.ctx n).state = .starting) (e : EdgeSense) (b : Boundary) (later ref blind : Bool) :
    s.windowItem n e b later ref blind =
      if (s.ctx n).config.senseB.takes e && (!(s.ctx n).live.testFulfilment || later) then s.totalOpen n b ref blind else s := by
  simp only [State.windowItem, hst]

theorem State.windowItem_of_gating (hst : (s.ctx n).state = .gating) (e : EdgeSense) (b : Boundary) (later ref blind : Bool) :
    s.windowItem n e b later ref blind =
      if (s.ctx n).config.senseB.opposes e then
        s.totalClose n b { (s.ctx n).live.flags with
          ref := (s.ctx n).live.flags.ref || ref, blind := (s.ctx n).live.flags.blind || blind }
      else s := by
  simp only [State.windowItem, hst]

theorem Sense.opposes_iff (x : Sense) (e : EdgeSense) : x.opposes e = true ↔ (x = .rise ∧ e = .fall) ∨ (x = .fall ∧ e = .rise) := by
  cases x <;> cases e <;> simp [Sense.opposes]

theorem Sense.opposes_eq_false_of_takes {x : Sense} {e : EdgeSense} (h : x.takes e = true) : x.opposes e = false := by
  cases x <;> cases e <;> first | rfl | cases h

/-- An open window, as R130 gives it. -/
theorem State.totalOpen_window (hm : (s.ctx n).config.gateMode = .window) (b : Boundary) (ref blind : Bool) :
    s.totalOpen n b ref blind =
      s.setCtx n { s.ctx n with
        state := .gating
        live := { (s.ctx n).live with
          openTick := b.tick
          openCount := (s.channel (s.ctx n).config.channelA).sample b.elapsed (s.ctx n).config.senseA
          flags := { Flags.clear with ref := ref, blind := blind }
          deadline := some (b.tick + watchLength (s.ctx n))
          testFulfilment := false } } := by
  have hnot : ¬(s.ctx n).config.gateMode = .time := by rw [hm]; nofun
  rw [State.totalOpen, State.modCtx, Context.openExpiry, if_neg hnot, if_neg hnot]
  rfl

end

/-- Settles O49: either form of the item comes to `windowItem` with its marks, unless R80 sets it aside. -/
theorem windowOpensAndCloses : Obligations.WindowOpensAndCloses := by
  intro s n ch i command ref blind later harr hc hl ha hk hm hB hcommand
  have haside (h : i.stamped = none ∧ ¬NotBeforeFulfilment s n i) : exec command s = .next (handed s n ch) := by
    obtain ⟨x, hx, -⟩ | ⟨hx, rfl, -⟩ := hcommand
    · exact nomatch hx.symm.trans h.1
    · rw [exec_unstampedEdgeNotice, State.deliver_notice_before harr hx h.2]
  have hitem (hacts : i.stamped = none → NotBeforeFulfilment s n i) (hst : (s.ctx n).state ≠ .armed) :
      exec command s = .next ((handed s n ch).windowItem n i.sense ⟨i.tick, i.edgeTick⟩ later ref blind) := by
    obtain ⟨x, hx, rfl, rfl, rfl, rfl⟩ | ⟨hx, rfl, rfl, rfl, rfl⟩ := hcommand
    · rw [exec_stampedEdgeMessage, State.deliver_message_ab harr hc hx hl ha (by rw [hk]; nofun) hst,
        State.takeAB_window (s := handed s n ch) hk hm hB, show tickOfStamp (i.message x).stamp = i.tick from tickOfStamp_stampOf _ _]
      rfl
    · rw [exec_unstampedEdgeNotice, State.deliver_notice_ab harr hc hx hl ha (hacts hx) (by rw [hk]; nofun),
        State.noticeAB_window (s := handed s n ch) hk hm hB, decide_not]
      rfl
  have hstarting (hacts : i.stamped = none → NotBeforeFulfilment s n i) (hst : (s.ctx n).state = .starting) :=
    (hitem hacts (by rw [hst]; nofun)).trans (congrArg _ (State.windowItem_of_starting (s := handed s n ch) hst _ _ _ _ _))
  have hgating (hacts : i.stamped = none → NotBeforeFulfilment s n i) (hst : (s.ctx n).state = .gating) :=
    (hitem hacts (by rw [hst]; nofun)).trans (congrArg _ (State.windowItem_of_gating (s := handed s n ch) hst _ _ _ _ _))
  refine ⟨fun h => haside (Classical.not_imp.mp h), fun hacts hst htakes hlater => ?_, fun hst htakes htest hlater => ?_,
    fun hacts hst hopposes => ?_, fun hst _ htakes => ?_⟩
  · have hopens : ((s.ctx n).config.senseB.takes i.sense && (!(s.ctx n).live.testFulfilment || later)) = true := by
      rw [htakes]
      obtain h | h := hlater <;> simp [h]
    rw [hstarting hacts hst, handed_ctx, if_pos hopens, State.totalOpen_window (s := handed s n ch) hm]
    rfl
  · by_cases hacts : i.stamped = none → NotBeforeFulfilment s n i
    · rw [hstarting hacts hst, handed_ctx, htest, hlater, Bool.not_true, Bool.or_false, Bool.and_false]
      rfl
    · exact haside (Classical.not_imp.mp hacts)
  · refine ⟨_, (hgating hacts hst).trans (congrArg _ (if_pos ((Sense.opposes_iff _ _).mpr hopposes))), ?_⟩
    exact State.totalClose_closed (s := handed s n ch) (by rw [handed_ctx, hst]; nofun) _ _
  · by_cases hacts : i.stamped = none → NotBeforeFulfilment s n i
    · rw [hgating hacts hst, handed_ctx, Sense.opposes_eq_false_of_takes htakes]
      rfl
    · exact haside (Classical.not_imp.mp hacts)

end Sys2Proof.Machine
end

section
/-! INTERVAL contexts: the interval that a stop forms, the close of its batch and the wait after it (spec/06_time_interval_measurement.md,
sections 6.2 to 6.5), each said once. -/

namespace Sys2Proof.Machine

open Sys2Proof.Safety

/-! ### The batch -/

/-- Two sets of live figures with the same batch. -/
structure SameBatch (l k : Live) : Prop where
  batchOpen : l.batchOpen = k.batchOpen
  batchSize : l.batchSize = k.batchSize
  batchSum : l.batchSum = k.batchSum
  batchCount : l.batchCount = k.batchCount
  batchMin : l.batchMin = k.batchMin
  batchMax : l.batchMax = k.batchMax
  firstStart : l.firstStart = k.firstStart
  flags : l.flags = k.flags

/-- The context with the interval from its start stamp to a stop added to its batch (R117). -/
def Context.withStop (c : Context) (stop : HeldStop) : Context :=
  { c with
    live :=
      let l := c.live.addInterval (stop.stamp - c.live.startStamp)
      let l := { l with flags := { l.flags with ref := l.flags.ref || stop.unlocked } }
      l.useStopGen c.config stop.generation }

/-- The batch generation with which a stop of the context is compared (R120). -/
def Context.stopGen (c : Context) : Option Byte := if c.config.channelA = c.config.channelB then c.live.batchGenA else c.live.batchGenB

theorem shorter_eq (a b : Stamp) : shorter a b = if b < a then b else a := by
  simp only [shorter, BitVec.lt_def]
  split_ifs <;> first | rfl | omega

theorem longer_eq (a b : Stamp) : longer a b = if a < b then b else a := by
  simp only [longer, BitVec.lt_def]
  split_ifs <;> first | rfl | (exact BitVec.eq_of_toNat_eq (by omega))

/-- The batch with the interval of a stop (R117, R120). -/
theorem Context.withStop_live (c : Context) (stop : HeldStop) :
    let l := (c.withStop stop).live
    let length := stop.stamp - c.live.startStamp
    (l.batchOpen = c.live.batchOpen ∧ l.batchSize = c.live.batchSize ∧ l.firstStart = c.live.firstStart) ∧
      l.batchSum = c.live.batchSum + BitVec.ofNat 80 length.toNat ∧ l.batchCount = c.live.batchCount + 1 ∧
      l.batchMin = (if c.live.batchCount = 0 ∨ length < c.live.batchMin then length else c.live.batchMin) ∧
      l.batchMax = (if c.live.batchCount = 0 ∨ c.live.batchMax < length then length else c.live.batchMax) ∧
      l.flags = { c.live.flags with
        ref := c.live.flags.ref || stop.unlocked, calSwap := c.live.flags.calSwap || swapped c.stopGen stop.generation } := by
  have hmin : (if c.live.batchCount = 0 then stop.stamp - c.live.startStamp else shorter c.live.batchMin (stop.stamp - c.live.startStamp)) =
      if c.live.batchCount = 0 ∨ stop.stamp - c.live.startStamp < c.live.batchMin then stop.stamp - c.live.startStamp
      else c.live.batchMin := by
    rw [shorter_eq, ite_or]
  have hmax : (if c.live.batchCount = 0 then stop.stamp - c.live.startStamp else longer c.live.batchMax (stop.stamp - c.live.startStamp)) =
      if c.live.batchCount = 0 ∨ c.live.batchMax < stop.stamp - c.live.startStamp then stop.stamp - c.live.startStamp
      else c.live.batchMax := by
    rw [longer_eq, ite_or]
  dsimp only
  rw [← hmin, ← hmax, BitVec.ofNat_toNat]
  unfold Context.withStop Live.useStopGen Context.stopGen
  by_cases h : c.config.channelA = c.config.channelB
  · simp only [if_pos h]
    exact ⟨⟨rfl, rfl, rfl⟩, rfl, rfl, rfl, rfl, rfl⟩
  · simp only [if_neg h]
    exact ⟨⟨rfl, rfl, rfl⟩, rfl, rfl, rfl, rfl, rfl⟩

/-! ### The wait after a stop -/

/-- How an INTERVAL run goes on after a stop: in period mode the stop is the next start, otherwise it waits from the stop (R111, R118). -/
def State.intervalNext (s : State) (n : Fin 16) (stop : HeldStop) : State :=
  if (s.ctx n).config.periodMode then s.intervalRecordStart n stop else s.intervalWait n stop.stamp (tickOfStamp stop.stamp)

section
variable {s : State} {n : Fin 16} {stop : HeldStop}

/-- Outside period mode the wait leaves the batch. -/
theorem State.intervalNext_wait (h : (s.ctx n).config.periodMode = false) :
    ∃ l, s.intervalNext n stop = s.setCtx n { s.ctx n with state := .starting, live := l } ∧
      l.deadline = some (tickOfStamp stop.stamp + watchLength (s.ctx n)) ∧ l.floor = stop.stamp ∧ l.entryTick = tickOfStamp stop.stamp ∧
      l.heldStop = none ∧ l.heldNotice = none ∧ SameBatch l (s.ctx n).live := by
  rw [State.intervalNext, h]
  exact ⟨_, State.intervalWait_eq s n _ _, rfl, rfl, rfl, rfl, rfl, rfl, rfl, rfl, rfl, rfl, rfl, rfl, rfl⟩

/-- In period mode the stop starts the next interval, in the open batch or in a new one. -/
theorem State.intervalNext_period (h : (s.ctx n).config.periodMode = true) :
    ∃ l, s.intervalNext n stop = s.setCtx n { s.ctx n with state := .gating, live := l } ∧
      l.deadline = some (tickOfStamp stop.stamp + watchLength (s.ctx n)) ∧ l.startStamp = stop.stamp ∧ l.batchOpen = true ∧
      ((s.ctx n).live.batchOpen = false → l.firstStart = stop.stamp ∧ l.batchCount = 0) ∧
      ((s.ctx n).live.batchOpen = true →
        SameBatch l { (s.ctx n).live with flags := { (s.ctx n).live.flags with
          ref := (s.ctx n).live.flags.ref || stop.unlocked
          calSwap := (s.ctx n).live.flags.calSwap || swapped (s.ctx n).live.batchGenA stop.generation } }) := by
  obtain ⟨l, heq, hstart, hdeadline, -, -, hbatch, hnew, hold⟩ := State.intervalRecordStart_eq s n stop
  rw [State.intervalNext, h]
  refine ⟨l, heq, hdeadline, hstart, hbatch, fun hclosed => ?_, fun hopen => ?_⟩
  · obtain ⟨hfirst, -, -, hcount, -⟩ := hnew hclosed
    exact ⟨hfirst, hcount⟩
  · obtain ⟨hfirst, hsize, hsum, hcount, hmin, hmax, -, -, hflags⟩ := hold hopen
    exact ⟨hbatch.trans hopen.symm, hsize, hsum, hcount, hmin, hmax, hfirst, hflags⟩

/-- A stop that starts the next interval is compared with its own generation, which adds nothing to what the stop marked (R120). -/
theorem Context.withStop_flags_again (c : Context) (stop : HeldStop) (h : c.config.periodMode = true) :
    ({ (c.withStop stop).live.flags with
      ref := (c.withStop stop).live.flags.ref || stop.unlocked
      calSwap := (c.withStop stop).live.flags.calSwap || swapped (c.withStop stop).live.batchGenA stop.generation } : Flags) =
      (c.withStop stop).live.flags := by
  have hshared : c.config.channelA = c.config.channelB := ((periodMode_iff _).mp h).1
  obtain ⟨-, -, -, -, -, hflags⟩ := c.withStop_live stop
  have hgen : (c.withStop stop).live.batchGenA = some (c.live.batchGenA.getD stop.generation) := by
    rw [Context.withStop, Live.useStopGen, if_pos hshared]
    rfl
  have hswapped : swapped (some (c.live.batchGenA.getD stop.generation)) stop.generation = swapped c.live.batchGenA stop.generation := by
    cases c.live.batchGenA <;> simp [swapped]
  rw [hgen, hswapped, hflags, Context.stopGen, if_pos hshared]
  simp only [Bool.or_assoc, Bool.or_self]

/-! ### The close of a batch -/

/-- The context with its batch closed and counted (R121, R146). -/
def Context.batchCounted (c : Context) : Context :=
  { c.countClose with live := { c.live with flags := Flags.clear, batchOpen := false } }

/-- The part with a batch counted and, where the pattern passes it, handed on (R121). -/
def State.batchHanded (s : State) (n : Fin 16) : State :=
  if (s.ctx n).patternPasses then (s.setCtx n (s.ctx n).batchCounted).handOn n (s.ctx n).intervalGate
  else s.setCtx n (s.ctx n).batchCounted

theorem State.batchHanded_ctx (s : State) (n : Fin 16) :
    (s.batchHanded n).ctx n =
      { (s.ctx n).batchCounted with
        slot := if (s.ctx n).patternPasses then
            some { (s.ctx n).intervalGate with flags := { (s.ctx n).intervalGate.flags with gap := (s.ctx n).slot.isSome } }
          else (s.ctx n).slot } := by
  rw [State.batchHanded, ctx_ite_handOn, State.ctx_setCtx_self]
  rfl

theorem State.batchHanded_gatePending (s : State) (n : Fin 16) :
    (s.batchHanded n).gatePending n = ((s.ctx n).patternPasses || s.gatePending n) := by
  have hpending : (s.setCtx n (s.ctx n).batchCounted).gatePending n = s.gatePending n := State.gatePending_setCtx rfl
  rw [State.batchHanded, gatePending_ite_handOn, hpending]

theorem State.batchHanded_passed (h : (s.ctx n).patternPasses = true) : HandedOn n (s.ctx n).intervalGate s (s.batchHanded n) := by
  rw [State.batchHanded, if_pos h]
  exact handedOn_congr (State.handOn_handedOn (s.setCtx n (s.ctx n).batchCounted) n _) (by rw [State.ctx_setCtx_self]; rfl) rfl rfl rfl rfl rfl

theorem State.batchHanded_skipped (h : (s.ctx n).patternPasses = false) :
    (s.batchHanded n).quotient = s.quotient ∧ (s.batchHanded n).attention = s.attention := by
  rw [State.batchHanded, h]
  exact ⟨rfl, rfl⟩

theorem State.batchClose_eq (s : State) (n : Fin 16) (stop : HeldStop) :
    s.batchClose n stop =
      match (s.ctx n).config.runMode with
      | .single => (s.batchHanded n).endRun n
      | .continuous => (s.batchHanded n).intervalNext n stop := by
  have hconfig : ((s.batchHanded n).ctx n).config = (s.ctx n).config := by rw [State.batchHanded_ctx]; rfl
  rw [State.intervalNext, hconfig]
  rfl

theorem State.intervalStop_eq (s : State) (n : Fin 16) (stop : HeldStop) :
    s.intervalStop n stop =
      if ((s.ctx n).withStop stop).live.batchCount = ((s.ctx n).withStop stop).live.batchSize then
        (s.setCtx n ((s.ctx n).withStop stop)).batchClose n stop
      else (s.setCtx n ((s.ctx n).withStop stop)).intervalNext n stop := by
  have hctx : (s.setCtx n ((s.ctx n).withStop stop)).ctx n = (s.ctx n).withStop stop := s.ctx_setCtx_self n _
  rw [State.intervalStop]
  change (if ((s.setCtx n ((s.ctx n).withStop stop)).ctx n).live.batchCount = ((s.setCtx n ((s.ctx n).withStop stop)).ctx n).live.batchSize
    then _ else _) = _
  rw [hctx]
  rfl

/-! ### The interval formed at a stop -/

/-- What a stop makes of a context with a batch in progress, and how the run goes on (R110, R117, R118, R121). -/
structure IntervalFormed (s : State) (n : Fin 16) (stop : HeldStop) (t : State) : Prop where
  only : ContextOnly n s t
  kept : (t.ctx n).record = (s.ctx n).record ∧ (t.ctx n).total = (s.ctx n).total ∧ (t.ctx n).latePending = (s.ctx n).latePending
  unfinished : ((s.ctx n).withStop stop).live.batchCount ≠ ((s.ctx n).withStop stop).live.batchSize →
    ((t.ctx n).seq = (s.ctx n).seq ∧ (t.ctx n).position = (s.ctx n).position ∧ (t.ctx n).slot = (s.ctx n).slot ∧
      t.quotient = s.quotient ∧ t.attention = s.attention) ∧ SameBatch (t.ctx n).live ((s.ctx n).withStop stop).live
  closed : ((s.ctx n).withStop stop).live.batchCount = ((s.ctx n).withStop stop).live.batchSize →
    (t.ctx n).seq = (s.ctx n).seq + 1 ∧ (t.ctx n).position = (s.ctx n).nextPosition ∧
      ((s.ctx n).patternPasses = true → HandedOn n ((s.ctx n).withStop stop).intervalGate s t) ∧
      ((s.ctx n).patternPasses = false → (t.ctx n).slot = (s.ctx n).slot ∧ t.quotient = s.quotient ∧ t.attention = s.attention)
  ended : ((s.ctx n).withStop stop).live.batchCount = ((s.ctx n).withStop stop).live.batchSize → (s.ctx n).config.runMode = .single →
    (t.ctx n).state = (if (s.ctx n).patternPasses || s.gatePending n then .settling else .idle) ∧ (t.ctx n).live.deadline = none ∧
      (t.ctx n).live.batchOpen = false ∧ (t.ctx n).live.flags = Flags.clear
  waits : ((s.ctx n).withStop stop).live.batchCount ≠ ((s.ctx n).withStop stop).live.batchSize ∨ (s.ctx n).config.runMode = .continuous →
    (t.ctx n).live.deadline = some (tickOfStamp stop.stamp + watchLength (s.ctx n)) ∧
    ((s.ctx n).config.periodMode = false →
      (t.ctx n).state = .starting ∧ (t.ctx n).live.floor = stop.stamp ∧ (t.ctx n).live.entryTick = tickOfStamp stop.stamp ∧
        (t.ctx n).live.heldStop = none ∧ (t.ctx n).live.heldNotice = none ∧
        (((s.ctx n).withStop stop).live.batchCount = ((s.ctx n).withStop stop).live.batchSize →
          (t.ctx n).live.batchOpen = false ∧ (t.ctx n).live.flags = Flags.clear)) ∧
    ((s.ctx n).config.periodMode = true →
      (t.ctx n).state = .gating ∧ (t.ctx n).live.startStamp = stop.stamp ∧
        (((s.ctx n).withStop stop).live.batchCount = ((s.ctx n).withStop stop).live.batchSize →
          (t.ctx n).live.batchOpen = true ∧ (t.ctx n).live.firstStart = stop.stamp ∧ (t.ctx n).live.batchCount = 0))

/-- A stop that does not complete the batch (R118). -/
theorem State.intervalStop_unfinished (hopen : (s.ctx n).live.batchOpen = true)
    (h : ((s.ctx n).withStop stop).live.batchCount ≠ ((s.ctx n).withStop stop).live.batchSize) :
    IntervalFormed s n stop (s.intervalStop n stop) := by
  have honly := ContextOnly.intervalStop s n stop
  have hself : (s.setCtx n ((s.ctx n).withStop stop)).ctx n = (s.ctx n).withStop stop := s.ctx_setCtx_self n _
  rw [State.intervalStop_eq, if_neg h] at honly ⊢
  cases hp : (s.ctx n).config.periodMode with
  | false =>
    obtain ⟨l, heq, hdeadline, hfloor, hentry, hstop, hnotice, hbatch⟩ :=
      State.intervalNext_wait (s := s.setCtx n ((s.ctx n).withStop stop)) (stop := stop) (by rw [hself]; exact hp)
    rw [hself, State.setCtx_setCtx] at heq
    rw [hself] at hdeadline hbatch
    rw [heq] at honly ⊢
    refine ⟨honly, ?_, fun _ => ?_, fun hclosed => absurd hclosed h, fun hclosed => absurd hclosed h, fun _ => ?_⟩ <;>
      rw [State.ctx_setCtx_self]
    · exact ⟨rfl, rfl, rfl⟩
    · exact ⟨⟨rfl, rfl, rfl, rfl, rfl⟩, hbatch⟩
    · exact ⟨hdeadline, fun _ => ⟨rfl, hfloor, hentry, hstop, hnotice, fun hclosed => absurd hclosed h⟩, by rw [hp]; nofun⟩
  | true =>
    obtain ⟨l, heq, hdeadline, hstart, -, -, hbatch⟩ :=
      State.intervalNext_period (s := s.setCtx n ((s.ctx n).withStop stop)) (stop := stop) (by rw [hself]; exact hp)
    rw [hself, State.setCtx_setCtx] at heq
    rw [hself, Context.withStop_flags_again _ _ hp] at hbatch
    rw [hself] at hdeadline
    rw [heq] at honly ⊢
    refine ⟨honly, ?_, fun _ => ?_, fun hclosed => absurd hclosed h, fun hclosed => absurd hclosed h, fun _ => ?_⟩ <;>
      rw [State.ctx_setCtx_self]
    · exact ⟨rfl, rfl, rfl⟩
    · exact ⟨⟨rfl, rfl, rfl, rfl, rfl⟩, hbatch (((s.ctx n).withStop_live stop).1.1.trans hopen)⟩
    · exact ⟨hdeadline, by rw [hp]; nofun, fun _ => ⟨rfl, hstart, fun hclosed => absurd hclosed h⟩⟩

/-- A stop that completes the batch (R110, R121). -/
theorem State.intervalStop_closed (h : ((s.ctx n).withStop stop).live.batchCount = ((s.ctx n).withStop stop).live.batchSize) :
    IntervalFormed s n stop (s.intervalStop n stop) := by
  have honly := ContextOnly.intervalStop s n stop
  have hself : (s.setCtx n ((s.ctx n).withStop stop)).ctx n = (s.ctx n).withStop stop := s.ctx_setCtx_self n _
  have hpending : (s.setCtx n ((s.ctx n).withStop stop)).gatePending n = s.gatePending n := State.gatePending_setCtx rfl
  rw [State.intervalStop_eq, if_pos h, State.batchClose_eq, hself] at honly ⊢
  have hctx := (s.setCtx n ((s.ctx n).withStop stop)).batchHanded_ctx n
  have hgate := (s.setCtx n ((s.ctx n).withStop stop)).batchHanded_gatePending n
  have hpassed := State.batchHanded_passed (s := s.setCtx n ((s.ctx n).withStop stop)) (n := n)
  have hskipped := State.batchHanded_skipped (s := s.setCtx n ((s.ctx n).withStop stop)) (n := n)
  generalize (s.setCtx n ((s.ctx n).withStop stop)).batchHanded n = u at honly hctx hgate hpassed hskipped ⊢
  rw [hself] at hctx hgate hpassed hskipped
  rw [hpending] at hgate
  have hslot : (s.ctx n).patternPasses = false → (u.ctx n).slot = (s.ctx n).slot := fun hp => by
    rw [hctx]
    exact if_neg (by rw [show ((s.ctx n).withStop stop).patternPasses = (s.ctx n).patternPasses from rfl, hp]; nofun)
  have hconfig : (u.ctx n).config = (s.ctx n).config := by rw [hctx]; rfl
  have hlength : watchLength (u.ctx n) = watchLength (s.ctx n) := by rw [hctx]; rfl
  have hkept : (u.ctx n).record = (s.ctx n).record ∧ (u.ctx n).total = (s.ctx n).total ∧ (u.ctx n).latePending = (s.ctx n).latePending ∧
      (u.ctx n).seq = (s.ctx n).seq + 1 ∧ (u.ctx n).position = (s.ctx n).nextPosition := by
    rw [hctx]
    exact ⟨rfl, rfl, rfl, rfl, rfl⟩
  have hlive : (u.ctx n).live.batchOpen = false ∧ (u.ctx n).live.flags = Flags.clear := by
    rw [hctx]
    exact ⟨rfl, rfl⟩
  obtain ⟨hrecord, htotal, hlate, hseq, hposition⟩ := hkept
  have hfrom {t : State} (hq : t.quotient = u.quotient) (ha : t.attention = u.attention) (hs : (t.ctx n).slot = (u.ctx n).slot) :
      ((s.ctx n).patternPasses = true → HandedOn n ((s.ctx n).withStop stop).intervalGate s t) ∧
        ((s.ctx n).patternPasses = false → (t.ctx n).slot = (s.ctx n).slot ∧ t.quotient = s.quotient ∧ t.attention = s.attention) := by
    refine ⟨fun hp => handedOn_congr (hpassed hp) (by rw [hself]; rfl) rfl rfl hs (by rw [hq]) ha, fun hp => ?_⟩
    obtain ⟨hq', ha'⟩ := hskipped hp
    exact ⟨hs.trans (hslot hp), hq.trans hq', ha.trans ha'⟩
  cases hr : ((s.ctx n).withStop stop).config.runMode with
  | single =>
    rw [hr] at honly
    dsimp only at honly ⊢
    have hend : endState u n = if (s.ctx n).patternPasses || s.gatePending n then .settling else .idle := by
      rw [endState, hgate]
      rfl
    have hcont : (s.ctx n).config.runMode ≠ .continuous := by
      rw [show (s.ctx n).config.runMode = .single from hr]
      nofun
    have hpost := hfrom (t := u.endRun n) rfl rfl (by rw [endRun_ctx])
    refine ⟨honly, ?_, fun hne => absurd h hne, fun _ => ?_, fun _ _ => ?_, fun hw => ?_⟩
    · rw [endRun_ctx]
      exact ⟨hrecord, htotal, hlate⟩
    · refine ⟨?_, ?_, hpost⟩ <;> rw [endRun_ctx]
      · exact hseq
      · exact hposition
    · rw [endRun_ctx]
      exact ⟨hend, rfl, hlive⟩
    · exact absurd h (hw.resolve_right hcont)
  | continuous =>
    rw [hr] at honly
    dsimp only at honly ⊢
    have hsingle : (s.ctx n).config.runMode ≠ .single := by
      rw [show (s.ctx n).config.runMode = .continuous from hr]
      nofun
    cases hp : (s.ctx n).config.periodMode with
    | false =>
      obtain ⟨l, heq, hdeadline, hfloor, hentry, hstop, hnotice, hbatch⟩ := State.intervalNext_wait (s := u) (stop := stop) (by rw [hconfig]; exact hp)
      rw [hlength] at hdeadline
      rw [heq] at honly ⊢
      have hpost := hfrom (t := u.setCtx n { u.ctx n with state := .starting, live := l }) rfl rfl (by rw [State.ctx_setCtx_self])
      refine ⟨honly, ?_, fun hne => absurd h hne, fun _ => ⟨?_, ?_, hpost⟩, fun _ hs => absurd hs hsingle, fun _ => ?_⟩ <;>
        rw [State.ctx_setCtx_self]
      · exact ⟨hrecord, htotal, hlate⟩
      · exact hseq
      · exact hposition
      · exact ⟨hdeadline, fun _ => ⟨rfl, hfloor, hentry, hstop, hnotice,
          fun _ => ⟨hbatch.batchOpen.trans hlive.1, hbatch.flags.trans hlive.2⟩⟩, by rw [hp]; nofun⟩
    | true =>
      obtain ⟨l, heq, hdeadline, hstart, hopen, hnew, -⟩ := State.intervalNext_period (s := u) (stop := stop) (by rw [hconfig]; exact hp)
      rw [hlength] at hdeadline
      rw [heq] at honly ⊢
      have hpost := hfrom (t := u.setCtx n { u.ctx n with state := .gating, live := l }) rfl rfl (by rw [State.ctx_setCtx_self])
      refine ⟨honly, ?_, fun hne => absurd h hne, fun _ => ⟨?_, ?_, hpost⟩, fun _ hs => absurd hs hsingle, fun _ => ?_⟩ <;>
        rw [State.ctx_setCtx_self]
      · exact ⟨hrecord, htotal, hlate⟩
      · exact hseq
      · exact hposition
      · exact ⟨hdeadline, by rw [hp]; nofun, fun _ => ⟨rfl, hstart, fun _ => ⟨hopen, hnew hlive.1⟩⟩⟩

theorem State.intervalStop_formed (hopen : (s.ctx n).live.batchOpen = true) (stop : HeldStop) :
    IntervalFormed s n stop (s.intervalStop n stop) := by
  by_cases h : ((s.ctx n).withStop stop).live.batchCount = ((s.ctx n).withStop stop).live.batchSize
  · exact State.intervalStop_closed h
  · exact State.intervalStop_unfinished hopen h

end

end Sys2Proof.Machine
end

section
/-! Settling O46, O47 and O48: the start of an interval, its stop, and the two crossing on their way
(spec/06_time_interval_measurement.md, sections 6.2 to 6.5). -/

namespace Sys2Proof.Machine

open Sys2Proof.Safety

/-! ### The batch with the interval from a start to a stop -/

/-- The batch of a context once the interval from a start to a stop is in it: the open batch or a new one, with the marks of both edges
(R112, R117, R120). -/
structure IntervalEntered (c : Context) (start stop : HeldStop) (l : Live) : Prop where
  batchOpen : l.batchOpen = true
  batchSize : l.batchSize = if c.live.batchOpen = true then c.live.batchSize else c.config.averaging
  batchSum : l.batchSum = (if c.live.batchOpen = true then c.live.batchSum else 0) + BitVec.ofNat 80 (stop.stamp - start.stamp).toNat
  batchCount : l.batchCount = (if c.live.batchOpen = true then c.live.batchCount else 0) + 1
  batchMin : l.batchMin =
    if (if c.live.batchOpen = true then c.live.batchCount else 0) = 0 ∨ stop.stamp - start.stamp < c.live.batchMin then
      stop.stamp - start.stamp
    else c.live.batchMin
  batchMax : l.batchMax =
    if (if c.live.batchOpen = true then c.live.batchCount else 0) = 0 ∨ c.live.batchMax < stop.stamp - start.stamp then
      stop.stamp - start.stamp
    else c.live.batchMax
  firstStart : l.firstStart = if c.live.batchOpen = true then c.live.firstStart else start.stamp
  flags :
    let before := if c.live.batchOpen = true then c.live.flags else Flags.clear
    let seenA := if c.live.batchOpen = true then c.live.batchGenA else none
    let seenB :=
      if c.config.channelA = c.config.channelB then some (seenA.getD start.generation)
      else if c.live.batchOpen = true then c.live.batchGenB else none
    l.flags = { before with
      ref := before.ref || start.unlocked || stop.unlocked
      calSwap := before.calSwap || swapped seenA start.generation || swapped seenB stop.generation }

theorem IntervalEntered.congr {c : Context} {start stop : HeldStop} {l k : Live} (h : SameBatch l k) (hk : IntervalEntered c start stop k) :
    IntervalEntered c start stop l where
  batchOpen := h.batchOpen.trans hk.batchOpen
  batchSize := h.batchSize.trans hk.batchSize
  batchSum := h.batchSum.trans hk.batchSum
  batchCount := h.batchCount.trans hk.batchCount
  batchMin := h.batchMin.trans hk.batchMin
  batchMax := h.batchMax.trans hk.batchMax
  firstStart := h.firstStart.trans hk.firstStart
  flags := h.flags.trans hk.flags

section
variable {s : State} {n : Fin 16} {start stop : HeldStop}

theorem State.intervalRecordStart_ctx (s : State) (n : Fin 16) (start : HeldStop) :
    (s.intervalRecordStart n start).ctx n =
      { s.ctx n with state := .gating, live := ((s.intervalRecordStart n start).ctx n).live } := by
  obtain ⟨l, heq, -⟩ := State.intervalRecordStart_eq s n start
  rw [heq, State.ctx_setCtx_self]

/-- The stop limit of the interval that a start begins (R114). -/
theorem State.intervalRecordStart_stopLimit (s : State) (n : Fin 16) (start : HeldStop) :
    ((s.intervalRecordStart n start).ctx n).stopLimit =
      start.stamp + BitVec.ofNat 60 (4096 * (s.ctx n).config.stopDelay.toNat) := by
  obtain ⟨l, heq, hstart, -⟩ := State.intervalRecordStart_eq s n start
  rw [Context.stopLimit_eq, heq, State.ctx_setCtx_self]
  exact congrArg (· + _) hstart

/-- A start and its stop enter the batch. -/
theorem State.intervalRecordStart_entered (s : State) (n : Fin 16) (start stop : HeldStop) :
    IntervalEntered (s.ctx n) start stop (((s.intervalRecordStart n start).ctx n).withStop stop).live := by
  obtain ⟨l, heq, hstart, -, -, -, hbatch, hnew, hold⟩ := State.intervalRecordStart_eq s n start
  obtain ⟨⟨hopen, hsize, hfirst⟩, hsum, hcount, hmin, hmax, hflags⟩ := ((s.intervalRecordStart n start).ctx n).withStop_live stop
  rw [Context.stopGen] at hflags
  generalize (((s.intervalRecordStart n start).ctx n).withStop stop).live = w at *
  rw [heq, State.ctx_setCtx_self] at hopen hsize hfirst hsum hcount hmin hmax hflags
  dsimp only at hopen hsize hfirst hsum hcount hmin hmax hflags
  rw [hstart] at hsum hmin hmax
  cases hb : (s.ctx n).live.batchOpen with
  | false =>
    obtain ⟨hfirst', hsize', hsum', hcount', -, -, hgenA, hgenB, hflags'⟩ := hnew hb
    rw [hsum'] at hsum
    rw [hcount'] at hcount hmin hmax
    rw [hgenA, hgenB, hflags'] at hflags
    refine ⟨hopen.trans hbatch, ?_, ?_, ?_, ?_, ?_, ?_, ?_⟩ <;> rw [hb]
    · exact hsize.trans hsize'
    · exact hsum
    · exact hcount
    · exact hmin
    · exact hmax
    · exact hfirst.trans hfirst'
    · exact hflags
  | true =>
    obtain ⟨hfirst', hsize', hsum', hcount', hmin', hmax', hgenA, hgenB, hflags'⟩ := hold hb
    rw [hsum'] at hsum
    rw [hcount'] at hcount hmin hmax
    rw [hmin'] at hmin
    rw [hmax'] at hmax
    rw [hgenA, hgenB, hflags'] at hflags
    refine ⟨hopen.trans hbatch, ?_, ?_, ?_, ?_, ?_, ?_, ?_⟩ <;> rw [hb]
    · exact hsize.trans hsize'
    · exact hsum
    · exact hcount
    · exact hmin
    · exact hmax
    · exact hfirst.trans hfirst'
    · exact hflags

/-! ### The interval from a start to a stop -/

/-- What a start and the stop that ends its interval make of a context outside period mode (R110, R117, R118, R121). -/
structure IntervalCrossed (s : State) (n : Fin 16) (start stop : HeldStop) (t : State) : Prop where
  only : ContextOnly n s t
  kept : (t.ctx n).record = (s.ctx n).record ∧ (t.ctx n).total = (s.ctx n).total ∧ (t.ctx n).latePending = (s.ctx n).latePending
  result : ∃ l, IntervalEntered (s.ctx n) start stop l ∧
    (l.batchCount ≠ l.batchSize →
      ((t.ctx n).seq = (s.ctx n).seq ∧ (t.ctx n).position = (s.ctx n).position ∧ (t.ctx n).slot = (s.ctx n).slot ∧
        t.quotient = s.quotient ∧ t.attention = s.attention) ∧ IntervalEntered (s.ctx n) start stop (t.ctx n).live) ∧
    (l.batchCount = l.batchSize →
      ((t.ctx n).seq = (s.ctx n).seq + 1 ∧ (t.ctx n).position = (s.ctx n).nextPosition ∧ (t.ctx n).live.batchOpen = false ∧
        (t.ctx n).live.flags = Flags.clear) ∧
      ((s.ctx n).patternPasses = true →
        HandedOn n ⟨.interval l.batchSum l.batchCount l.batchMin l.batchMax l.firstStart, l.flags, (s.ctx n).seq + 1⟩ s t) ∧
      ((s.ctx n).patternPasses = false → (t.ctx n).slot = (s.ctx n).slot ∧ t.quotient = s.quotient ∧ t.attention = s.attention)) ∧
    (l.batchCount = l.batchSize → (s.ctx n).config.runMode = .single →
      (t.ctx n).state = (if (s.ctx n).patternPasses || s.gatePending n then .settling else .idle) ∧ (t.ctx n).live.deadline = none) ∧
    (l.batchCount ≠ l.batchSize ∨ (s.ctx n).config.runMode = .continuous →
      (t.ctx n).state = .starting ∧ (t.ctx n).live.floor = stop.stamp ∧ (t.ctx n).live.entryTick = tickOfStamp stop.stamp ∧
        (t.ctx n).live.deadline = some (tickOfStamp stop.stamp + watchLength (s.ctx n)) ∧
        (t.ctx n).live.heldStop = none ∧ (t.ctx n).live.heldNotice = none)

theorem State.intervalStop_crossed (hperiod : (s.ctx n).config.periodMode = false) (start stop : HeldStop) :
    IntervalCrossed s n start stop ((s.intervalRecordStart n start).intervalStop n stop) := by
  have hentered := s.intervalRecordStart_entered n start stop
  obtain ⟨l, heq, -, -, -, -, hopen, -⟩ := State.intervalRecordStart_eq s n start
  have hctx : (s.intervalRecordStart n start).ctx n = { s.ctx n with state := .gating, live := l } := by
    rw [heq, State.ctx_setCtx_self]
  have hpending : (s.intervalRecordStart n start).gatePending n = s.gatePending n := State.gatePending_of_eq (by rw [hctx]) rfl
  obtain ⟨honly, hkept, hunfinished, hclosed, hended, hwaits⟩ :=
    State.intervalStop_formed (s := s.intervalRecordStart n start) (n := n) (by rw [hctx]; exact hopen) stop
  rw [hctx] at hentered hkept hunfinished hclosed hended hwaits
  rw [hpending] at hended
  refine ⟨(ContextOnly.intervalRecordStart s n start).trans honly, hkept, _, hentered, fun hne => ?_, fun hfull => ?_, fun hfull hr => ?_,
    fun hgoes => ?_⟩
  · obtain ⟨hsame, hbatch⟩ := hunfinished hne
    exact ⟨hsame, hentered.congr hbatch⟩
  · obtain ⟨hseq, hposition, hpassed, hskipped⟩ := hclosed hfull
    refine ⟨⟨hseq, hposition, ?_⟩, fun hp => ?_, hskipped⟩
    · cases hr : (s.ctx n).config.runMode with
      | single => exact (hended hfull hr).2.2
      | continuous => exact ((hwaits (.inr hr)).2.1 hperiod).2.2.2.2.2 hfull
    · exact handedOn_congr (hpassed hp) (by rw [hctx]) rfl rfl rfl rfl rfl
  · obtain ⟨hstate, hdeadline, -⟩ := hended hfull hr
    exact ⟨hstate, hdeadline⟩
  · obtain ⟨hdeadline, hwait, -⟩ := hwaits hgoes
    obtain ⟨hstate, hfloor, hentry, hstop, hnotice, -⟩ := hwait hperiod
    exact ⟨hstate, hfloor, hentry, hdeadline, hstop, hnotice⟩

/-! ### The start edge and the held-B slot -/

/-- The held notice that drops the interval which a start begins (R115 case 1). -/
def Context.HeldDrops (c : Context) (start : Stamp) (k : Tick) : Prop :=
  ¬(c.config.channelA = c.config.channelB ∧ c.config.senseA = c.config.senseB) ∧ c.live.heldNotice = some k ∧
    laterStamp (stampOfTick k) (start + BitVec.ofNat 60 (4096 * c.config.stopDelay.toNat)) = true

/-- The held stop that ends the interval which a start begins (R115 case 2). -/
def Context.HeldStops (c : Context) (start : Stamp) (h : HeldStop) : Prop :=
  ¬(c.config.channelA = c.config.channelB ∧ c.config.senseA = c.config.senseB) ∧ c.live.heldStop = some h ∧
    laterStamp h.stamp start = true ∧ atLeastStamp h.stamp (start + BitVec.ofNat 60 (4096 * c.config.stopDelay.toNat)) = true

/-- Outside period mode what the slot held is judged in the order of R115's cases. -/
theorem State.intervalStart_eq (s : State) (n : Fin 16) (m : HeldStop) :
    s.intervalStart n m =
      if (s.ctx n).config.periodMode then s.intervalRecordStart n m
      else
        match (s.ctx n).live.heldNotice.filter fun k =>
          laterStamp (stampOfTick k) (m.stamp + BitVec.ofNat 60 (4096 * (s.ctx n).config.stopDelay.toNat)) with
        | some k => (s.intervalRecordStart n m).intervalDrop n k
        | none =>
          match (s.ctx n).live.heldStop.filter fun h =>
            laterStamp h.stamp m.stamp && atLeastStamp h.stamp (m.stamp + BitVec.ofNat 60 (4096 * (s.ctx n).config.stopDelay.toNat)) with
          | some h => (s.intervalRecordStart n m).intervalStop n h
          | none => s.intervalRecordStart n m := by
  have hconfig : ((s.intervalRecordStart n m).ctx n).config = (s.ctx n).config := by rw [State.intervalRecordStart_ctx]
  unfold State.intervalStart
  dsimp only
  rw [hconfig, State.intervalRecordStart_stopLimit] <;> rfl

theorem State.intervalStart_drops {m : HeldStop} {k : Tick} (h : (s.ctx n).HeldDrops m.stamp k) :
    s.intervalStart n m = (s.intervalRecordStart n m).intervalDrop n k := by
  obtain ⟨hperiod, hheld, hlimit⟩ := h
  rw [State.intervalStart_eq, if_neg (mt (periodMode_iff _).mp hperiod), hheld, Option.filter_some, hlimit]
  rfl

/-- Nothing held drops the interval. -/
theorem heldNotice_filter_of_not (hperiod : ¬(s.ctx n).config.periodMode = true) {start : Stamp}
    (h : ∀ k, ¬(s.ctx n).HeldDrops start k) :
    ((s.ctx n).live.heldNotice.filter fun k =>
      laterStamp (stampOfTick k) (start + BitVec.ofNat 60 (4096 * (s.ctx n).config.stopDelay.toNat))) = none :=
  Option.filter_eq_none_iff.mpr fun k hk hlimit => h k ⟨mt (periodMode_iff _).mpr hperiod, hk, hlimit⟩

theorem State.intervalStart_stops {m h : HeldStop} (hdrops : ∀ k, ¬(s.ctx n).HeldDrops m.stamp k) (hstops : (s.ctx n).HeldStops m.stamp h) :
    s.intervalStart n m = (s.intervalRecordStart n m).intervalStop n h := by
  obtain ⟨hperiod, hheld, hlater, hlimit⟩ := hstops
  have hp := mt (periodMode_iff _).mp hperiod
  rw [State.intervalStart_eq, if_neg hp, heldNotice_filter_of_not hp hdrops, hheld, Option.filter_some, hlater, hlimit]
  rfl

theorem State.intervalStart_recorded {m : HeldStop} (hdrops : ∀ k, ¬(s.ctx n).HeldDrops m.stamp k)
    (hstops : ∀ h, ¬(s.ctx n).HeldStops m.stamp h) : s.intervalStart n m = s.intervalRecordStart n m := by
  rw [State.intervalStart_eq]
  by_cases hp : (s.ctx n).config.periodMode = true
  · rw [if_pos hp]
  · have hnone : ((s.ctx n).live.heldStop.filter fun h =>
        laterStamp h.stamp m.stamp &&
          atLeastStamp h.stamp (m.stamp + BitVec.ofNat 60 (4096 * (s.ctx n).config.stopDelay.toNat))) = none :=
      Option.filter_eq_none_iff.mpr fun h hh hjudged => by
        obtain ⟨hlater, hlimit⟩ := Bool.and_eq_true_iff.mp hjudged
        exact hstops h ⟨mt (periodMode_iff _).mpr hp, hh, hlater, hlimit⟩
    rw [if_neg hp, heldNotice_filter_of_not hp hdrops, hnone]

/-- The dropped interval leaves the wait for the next start, the batch open with BLIND (R119). -/
theorem State.intervalDrop_recorded (s : State) (n : Fin 16) (m : HeldStop) (k : Tick) :
    ∃ l, (s.intervalRecordStart n m).intervalDrop n k = s.setCtx n { s.ctx n with state := .starting, live := l } ∧
      l.floor = stampOfTick k ∧ l.entryTick = k ∧ l.deadline = some (k + watchLength (s.ctx n)) ∧ l.heldStop = none ∧ l.heldNotice = none ∧
      l.batchOpen = true ∧ l.flags.blind = true ∧
      ((s.ctx n).live.batchOpen = false →
        l.firstStart = m.stamp ∧ l.batchSize = (s.ctx n).config.averaging ∧ l.batchSum = 0 ∧ l.batchCount = 0) ∧
      ((s.ctx n).live.batchOpen = true →
        l.firstStart = (s.ctx n).live.firstStart ∧ l.batchSize = (s.ctx n).live.batchSize ∧ l.batchSum = (s.ctx n).live.batchSum ∧
          l.batchCount = (s.ctx n).live.batchCount ∧ l.batchMin = (s.ctx n).live.batchMin ∧ l.batchMax = (s.ctx n).live.batchMax) := by
  obtain ⟨l, heq, -, -, -, -, hopen, hnew, hold⟩ := State.intervalRecordStart_eq s n m
  rw [State.intervalDrop_eq, heq, State.ctx_setCtx_self, State.setCtx_setCtx]
  refine ⟨_, rfl, rfl, rfl, rfl, rfl, rfl, hopen, rfl, fun hb => ?_, fun hb => ?_⟩
  · obtain ⟨hfirst, hsize, hsum, hcount, -⟩ := hnew hb
    exact ⟨hfirst, hsize, hsum, hcount⟩
  · obtain ⟨hfirst, hsize, hsum, hcount, hmin, hmax, -⟩ := hold hb
    exact ⟨hfirst, hsize, hsum, hcount, hmin, hmax⟩

/-! ### Messages to an INTERVAL context -/

theorem State.takeMessage_a_interval (hk : (s.ctx n).config.kind = .interval) (m : Message) :
    s.takeMessage n m .a = s.intervalMessageA n m := by
  simp only [State.takeMessage, hk]

theorem State.takeMessage_b_interval (hk : (s.ctx n).config.kind = .interval) (m : Message) :
    s.takeMessage n m .b = s.intervalMessageB n m := by
  simp only [State.takeMessage, hk]

theorem State.intervalMessageA_starts {m : Message} (hst : (s.ctx n).state = .starting) (h : (s.ctx n).config.senseA.takes m.sense = true)
    (hfloor : laterStamp m.stamp (s.ctx n).live.floor = true) :
    s.intervalMessageA n m = s.intervalStart n ⟨m.stamp, m.generation, m.unlocked⟩ := if_pos ⟨hst, h, hfloor⟩

theorem State.intervalMessageB_stops {m : Message} (hst : (s.ctx n).state = .gating) (h : (s.ctx n).config.senseB.takes m.sense = true)
    (hlater : laterStamp m.stamp (s.ctx n).live.startStamp = true) (hlimit : atLeastStamp m.stamp (s.ctx n).stopLimit = true) :
    s.intervalMessageB n m = s.intervalStop n ⟨m.stamp, m.generation, m.unlocked⟩ := by
  simp only [State.intervalMessageB, h, hst, hlater, hlimit, if_true, Bool.and_self]

/-- A stop later than the floor is held in STARTING outside period mode (R112). -/
theorem State.intervalMessageB_holds {m : Message} (hst : (s.ctx n).state = .starting) (h : (s.ctx n).config.senseB.takes m.sense = true)
    (hperiod : (s.ctx n).config.periodMode = false) (hfloor : laterStamp m.stamp (s.ctx n).live.floor = true) :
    s.intervalMessageB n m =
      s.setCtx n { s.ctx n with live := { (s.ctx n).live with heldStop := some ⟨m.stamp, m.generation, m.unlocked⟩ } } := by
  have heq : s.intervalMessageB n m =
      if !(s.ctx n).config.periodMode && laterStamp m.stamp (s.ctx n).live.floor then
        s.modLive n fun l => { l with heldStop := some ⟨m.stamp, m.generation, m.unlocked⟩ }
      else s := by
    simp only [State.intervalMessageB, h, hst, if_true]
  rw [heq, hperiod, hfloor]
  rfl

/-- The messages that role B lets pass: outside STARTING and GATING, not later than the floor in STARTING, and too early for a stop in
GATING (R116). -/
def Context.PassesStop (c : Context) (b : Stamp) : Prop :=
  match c.state with
  | .starting => laterStamp b c.live.floor = false
  | .gating => laterStamp b c.live.startStamp = false ∨ atLeastStamp b c.stopLimit = false
  | .free | .idle | .armed | .closing | .settling => True

theorem State.intervalMessageB_passes {m : Message} (h : (s.ctx n).PassesStop m.stamp) : s.intervalMessageB n m = s := by
  unfold Context.PassesStop at h
  unfold State.intervalMessageB
  dsimp only
  split
  · cases hst : (s.ctx n).state <;> rw [hst] at h <;> dsimp only at h ⊢
    · rw [h, Bool.and_false]
      rfl
    · obtain h | h := h <;> simp [h]
  · rfl

theorem State.takeAB_interval (hk : (s.ctx n).config.kind = .interval) (c : Fin 8) (m : Message) :
    s.takeAB n c m =
      let t := if (s.ctx n).config.channelA = c then s.intervalMessageA n m else s
      if (s.ctx n).config.channelB = c then t.intervalMessageB n m else t := by
  have hconfig : ((if (s.ctx n).config.channelA = c then s.intervalMessageA n m else s).ctx n).config.kind = .interval := by
    split
    · rw [(ContextOnly.intervalMessageA s n m).config, hk]
    · exact hk
  rw [State.takeAB, State.takeMessage_a_interval hk]
  dsimp only
  rw [State.takeMessage_b_interval hconfig, hk]
  simp [holdsChannelB]

/-- A message of role A whose outcome role B lets pass. -/
theorem State.takeAB_role_a {c : Fin 8} {m : Message} {t : State} (hk : (s.ctx n).config.kind = .interval)
    (hA : (s.ctx n).config.channelA = c) (ht : s.intervalMessageA n m = t) (h : (t.ctx n).PassesStop m.stamp) : s.takeAB n c m = t := by
  rw [State.takeAB_interval hk]
  dsimp only
  rw [if_pos hA, ht, State.intervalMessageB_passes h, ite_self]

/-- A message of role B that role A lets pass, if the context holds it. -/
theorem State.takeAB_role_b {c : Fin 8} {m : Message} (hk : (s.ctx n).config.kind = .interval) (hB : (s.ctx n).config.channelB = c)
    (h : (s.ctx n).config.channelA = c → s.intervalMessageA n m = s) : s.takeAB n c m = s.intervalMessageB n m := by
  rw [State.takeAB_interval hk]
  dsimp only
  rw [if_pos hB]
  split
  · next hA => rw [h hA]
  · rfl

end

/-- The start that formed an interval is no stop for the context afterwards. -/
theorem IntervalCrossed.passesStop {s t : State} {n : Fin 16} {start stop : HeldStop} (h : IntervalCrossed s n start stop t)
    (hlater : laterStamp stop.stamp start.stamp = true) : (t.ctx n).PassesStop start.stamp := by
  obtain ⟨-, -, l, -, -, -, hended, hwaits⟩ := h
  have hstarting (hst : (t.ctx n).state = .starting ∧ (t.ctx n).live.floor = stop.stamp) : (t.ctx n).PassesStop start.stamp := by
    rw [Context.PassesStop, hst.1, hst.2]
    exact Bool.eq_false_iff.mpr (laterStamp_asymm hlater)
  by_cases hfull : l.batchCount = l.batchSize
  · cases hr : (s.ctx n).config.runMode with
    | single =>
      rw [Context.PassesStop, (hended hfull hr).1]
      cases (s.ctx n).patternPasses || s.gatePending n <;> trivial
    | continuous =>
      obtain ⟨hstate, hfloor, -⟩ := hwaits (.inr hr)
      exact hstarting ⟨hstate, hfloor⟩
  · obtain ⟨hstate, hfloor, -⟩ := hwaits (.inl hfull)
    exact hstarting ⟨hstate, hfloor⟩

/-! ### The obligations -/

section
variable {s : State} {n : Fin 16} {ch : Fin 8} {i : BusItem} {x : StampInfo}

/-- The edge of a stamped item, as a start or a stop of an interval. -/
abbrev BusItem.edge (i : BusItem) (x : StampInfo) : HeldStop := ⟨stampOf i.tick x.fine, x.generation, x.unlocked⟩

theorem laterStamp_self (a : Stamp) : laterStamp a a = false := Bool.eq_false_iff.mpr fun h => laterStamp_asymm h h

/-- The generation test of an interval as the statements spell it (R120). -/
theorem IntervalEntered.flags_any {c : Context} {start stop : HeldStop} {l : Live} (h : IntervalEntered c start stop l) :
    let before := if c.live.batchOpen = true then c.live.flags else Flags.clear
    let seenA := if c.live.batchOpen = true then c.live.batchGenA else none
    let seenB :=
      if c.config.channelA = c.config.channelB then some (seenA.getD start.generation)
      else if c.live.batchOpen = true then c.live.batchGenB else none
    l.flags = { before with
      ref := before.ref || start.unlocked || stop.unlocked
      calSwap := before.calSwap || (seenA.any fun g => decide (g ≠ start.generation)) ||
        (seenB.any fun g => decide (g ≠ stop.generation)) } := by
  simp only [← swapped_eq]
  exact h.flags

/-- What a message does to an INTERVAL context in a run. -/
theorem exec_stampedEdgeMessage_interval (h : Arriving s n ch i) (hc : i.channel = ch) (hx : i.stamped = some x) (hl : ListedOn s n ch)
    (ha : AfterArm s n i) (hk : (s.ctx n).config.kind = .interval) (hst : (s.ctx n).state ≠ .armed) :
    exec (.stampedEdgeMessage n ch) s = .next ((handed s n ch).takeAB n ch (i.message x)) := by
  rw [exec_stampedEdgeMessage, State.deliver_message_ab h hc hx hl ha (by rw [hk]; nofun) hst]

end

/-- What a start edge does, role B letting it pass afterwards. -/
theorem State.takeAB_starts {s : State} {n : Fin 16} {ch : Fin 8} {m : Message} {t : State} (hk : (s.ctx n).config.kind = .interval)
    (hst : (s.ctx n).state = .starting) (hA : (s.ctx n).config.channelA = ch) (htakes : (s.ctx n).config.senseA.takes m.sense = true)
    (hfloor : laterStamp m.stamp (s.ctx n).live.floor = true) (ht : s.intervalStart n ⟨m.stamp, m.generation, m.unlocked⟩ = t)
    (hpass : (t.ctx n).PassesStop m.stamp) : s.takeAB n ch m = t :=
  State.takeAB_role_a hk hA ((State.intervalMessageA_starts hst htakes hfloor).trans ht) hpass

/-- Settles O46: the start is recorded, and what the held-B slot held drops the interval, forms it, or is set aside. -/
theorem intervalStarts : Obligations.IntervalStarts := by
  intro s n ch i x harr hc hx hl ha hk hst hA htakes
  have hexec := exec_stampedEdgeMessage_interval harr hc hx hl ha hk (by rw [hst]; nofun)
  have hstart (hfloor : laterStamp (stampOf i.tick x.fine) (s.ctx n).live.floor = true) {t : State} :=
    State.takeAB_starts (s := handed s n ch) (m := i.message x) (t := t) hk hst hA htakes hfloor
  refine ⟨fun hfloor => ?_, fun hfloor hdrops hstops => ?_, fun k hfloor hdrops hlater => ?_, fun h hfloor hdrops hstops => ?_⟩
  · have hpass : (handed s n ch).takeAB n ch (i.message x) = handed s n ch :=
      State.takeAB_role_a (s := handed s n ch) hk hA
        (State.intervalMessageA_of_not (s := handed s n ch) (i.message x) (.inr (.inr hfloor)))
        (by rw [Context.PassesStop, handed_ctx, hst]; exact hfloor)
    rw [hexec, hpass]
  · obtain ⟨l, heq, hstamp, hdeadline, hstop, hnotice, hopen, hnew, hold⟩ :=
      State.intervalRecordStart_eq (handed s n ch) n (i.edge x)
    have hrecorded := (State.intervalStart_recorded (s := handed s n ch) (m := i.edge x) hdrops hstops).trans heq
    have honly := ContextOnly.intervalRecordStart (handed s n ch) n (i.edge x)
    rw [heq] at honly
    rw [tickOfStamp_stampOf] at hdeadline
    refine ⟨_, hexec.trans (congrArg _ (hstart hfloor hrecorded ?_)), honly.onlyContext, rfl, rfl, ?_⟩ <;> rw [State.ctx_setCtx_self]
    · exact .inl ((congrArg (laterStamp _) hstamp).trans (laterStamp_self _))
    · refine ⟨rfl, hstamp, hdeadline, hstop, hnotice, hopen, hnew, fun hb => ?_⟩
      rw [← swapped_eq]
      exact hold hb
  · obtain ⟨l, heq, hfigures⟩ := State.intervalDrop_recorded (handed s n ch) n (i.edge x) k
    have hdropped := (State.intervalStart_drops (s := handed s n ch) (m := i.edge x) hdrops).trans heq
    have honly := (ContextOnly.intervalRecordStart (handed s n ch) n (i.edge x)).trans
      (.intervalDrop _ n k)
    rw [heq] at honly
    refine ⟨_, hexec.trans (congrArg _ (hstart hfloor hdropped ?_)), honly.onlyContext, rfl, rfl, ?_⟩ <;> rw [State.ctx_setCtx_self]
    · exact (congrArg (laterStamp _) hfigures.1).trans hlater
    · exact ⟨rfl, hfigures⟩
  · have hperiod : (s.ctx n).config.periodMode = false := Bool.eq_false_iff.mpr (mt (periodMode_iff _).mp hstops.1)
    have hformed := State.intervalStart_stops (s := handed s n ch) (m := i.edge x) hdrops hstops
    obtain ⟨honly, ⟨hrecord, htotal, hlate⟩, l, hentered, hunfinished, hclosed, hended, hwaits⟩ :=
      State.intervalStop_crossed (s := handed s n ch) (n := n) hperiod (i.edge x) h
    have hpass := IntervalCrossed.passesStop ⟨honly, ⟨hrecord, htotal, hlate⟩, l, hentered, hunfinished, hclosed, hended, hwaits⟩ hstops.2.2.1
    intro u length opened size count sum first least most before seenA seenB flags gate
    rw [hentered.batchCount, hentered.batchSize] at hunfinished hclosed hended hwaits
    refine ⟨_, hexec.trans (congrArg _ (hstart hfloor hformed hpass)), honly.onlyContext, honly.work, honly.config, hrecord, htotal, hlate,
      fun hne => ?_, fun hfull => ?_, fun hfull hr => ?_, hwaits⟩
    · obtain ⟨⟨hseq, hposition, hslot, hquotient, hattention⟩, hbatch⟩ := hunfinished hne
      exact ⟨hseq, hposition, hslot, hquotient, hattention, hbatch.batchOpen, hbatch.batchSize, hbatch.batchSum, hbatch.batchCount,
        hbatch.batchMin, hbatch.batchMax, hbatch.firstStart, hbatch.flags_any⟩
    · obtain ⟨⟨hseq, hposition, hopen, hflags⟩, hpassed, hskipped⟩ := hclosed hfull
      refine ⟨hseq, nextPosition_of_eq hposition, hopen, hflags, fun hp => ?_, fun hp => hskipped ?_⟩
      · have hhanded := hpassed ((passes_iff _).mp hp)
        rw [hentered.batchSum, hentered.batchMin, hentered.batchMax, hentered.firstStart, hentered.flags_any] at hhanded
        exact hhanded
      · exact Bool.eq_false_iff.mpr (mt (passes_iff _).mpr hp)
    · obtain ⟨hstate, hdeadline⟩ := hended hfull hr
      obtain ⟨hsettles, hends⟩ := endState_of_close (c := s.ctx n) hstate
      exact ⟨hsettles, hends, hdeadline⟩

/-- The interval of a stop adds its figures to the batch, with the generation test as the statements spell it (R117, R120). -/
theorem Context.withStop_gate (c : Context) (stop : HeldStop) :
    let length := stop.stamp - c.live.startStamp
    (c.withStop stop).intervalGate =
      ⟨.interval (c.live.batchSum + BitVec.ofNat 80 length.toNat) (c.live.batchCount + 1)
          (if c.live.batchCount = 0 ∨ length < c.live.batchMin then length else c.live.batchMin)
          (if c.live.batchCount = 0 ∨ c.live.batchMax < length then length else c.live.batchMax) c.live.firstStart,
        { c.live.flags with
          ref := c.live.flags.ref || stop.unlocked, calSwap := c.live.flags.calSwap || (c.stopGen.any fun g => decide (g ≠ stop.generation)) },
        c.seq + 1⟩ := by
  obtain ⟨⟨-, -, hfirst⟩, hsum, hcount, hmin, hmax, hflags⟩ := c.withStop_live stop
  rw [swapped_eq] at hflags
  rw [Context.intervalGate, hfirst, hsum, hcount, hmin, hmax, hflags]
  rfl

/-- Settles O47: in GATING a stop forms the interval or comes too early; in STARTING it is held or passes. -/
theorem intervalStops : Obligations.IntervalStops := by
  refine ⟨fun s n ch i x harr hc hx hl ha hk hst hB htakes hlater hlimit hopen => ?_, fun s n ch i x harr hc hx hl ha hk hB htakes => ?_⟩
  · have hstops : (handed s n ch).takeAB n ch (i.message x) =
        (handed s n ch).intervalStop n (i.edge x) :=
      (State.takeAB_role_b (s := handed s n ch) (m := i.message x) hk hB
          fun _ => State.intervalMessageA_of_not (s := handed s n ch) _ (.inr (.inl hst))).trans
        (State.intervalMessageB_stops (s := handed s n ch) (m := i.message x) hst htakes hlater (by rw [Context.stopLimit_eq]; exact hlimit))
    have hexec := (exec_stampedEdgeMessage_interval harr hc hx hl ha hk (by rw [hst]; nofun)).trans (congrArg _ hstops)
    obtain ⟨honly, ⟨hrecord, htotal, hlate⟩, hunfinished, hclosed, hended, hwaits⟩ :=
      State.intervalStop_formed (s := handed s n ch) (n := n) hopen (i.edge x)
    obtain ⟨⟨hopen', hsize, hfirst⟩, hsum, hcount, hmin, hmax, hflags⟩ :=
      ((handed s n ch).ctx n).withStop_live (i.edge x)
    rw [swapped_eq] at hflags
    rw [hcount, hsize] at hunfinished hclosed hended hwaits
    rw [Context.withStop_gate] at hclosed
    rw [tickOfStamp_stampOf] at hwaits
    intro c u stop length sum least most period seen flags gate
    refine ⟨_, hexec, honly.onlyContext, honly.work, honly.config, hrecord, htotal, hlate, fun hne => ?_, fun hfull => ?_,
      fun hfull hr => ?_, fun hgoes => ?_⟩
    · obtain ⟨⟨hseq, hposition, hslot, hquotient, hattention⟩, hbatch⟩ := hunfinished hne
      exact ⟨hseq, hposition, hslot, hquotient, hattention, (hbatch.batchOpen.trans hopen').trans hopen, hbatch.batchSum.trans hsum,
        hbatch.batchCount.trans hcount, hbatch.batchMin.trans hmin, hbatch.batchMax.trans hmax, hbatch.firstStart.trans hfirst,
        hbatch.flags.trans hflags⟩
    · obtain ⟨hseq, hposition, hpassed, hskipped⟩ := hclosed hfull
      exact ⟨hseq, nextPosition_of_eq hposition, fun hp => hpassed ((passes_iff _).mp hp),
        fun hp => hskipped (Bool.eq_false_iff.mpr (mt (passes_iff _).mpr hp))⟩
    · obtain ⟨hstate, hends⟩ := hended hfull hr
      obtain ⟨hsettles, hidles⟩ := endState_of_close (c := s.ctx n) hstate
      exact ⟨hsettles, hidles, hends⟩
    · obtain ⟨hdeadline, hwait, hnext⟩ := hwaits hgoes
      refine ⟨hdeadline, fun hp => ?_, fun hp => hnext ((periodMode_iff _).mpr hp)⟩
      obtain ⟨hstate, hfloor, hentry, hstop, hnotice, hdone⟩ := hwait (Bool.eq_false_iff.mpr (mt (periodMode_iff _).mp hp))
      exact ⟨hstate, hfloor, hentry, hstop, hnotice, fun hfull => (hdone hfull).1⟩
  · have hexec (hst : (s.ctx n).state ≠ .armed)
        (hA : (s.ctx n).config.channelA = ch → (handed s n ch).intervalMessageA n (i.message x) = handed s n ch) :
        exec (.stampedEdgeMessage n ch) s = .next ((handed s n ch).intervalMessageB n (i.message x)) :=
      (exec_stampedEdgeMessage_interval harr hc hx hl ha hk hst).trans
        (congrArg _ (State.takeAB_role_b (s := handed s n ch) (m := i.message x) hk hB hA))
    have hstarting (hst : (s.ctx n).state = .starting)
        (hA : (s.ctx n).config.channelA ≠ ch ∨ (s.ctx n).config.senseA.takes i.sense = false) :
        exec (.stampedEdgeMessage n ch) s = .next ((handed s n ch).intervalMessageB n (i.message x)) :=
      hexec (by rw [hst]; nofun) fun h =>
        State.intervalMessageA_of_not (s := handed s n ch) (i.message x) (.inl (hA.resolve_left (not_not.mpr h)))
    refine ⟨fun hst hearly => ?_, fun hst hA hfloor => ?_, fun hst hA hfloor => ?_⟩
    · have hpass : ((handed s n ch).ctx n).PassesStop (i.message x).stamp := by
        rw [Context.PassesStop, handed_ctx, hst, Context.stopLimit_eq]
        exact hearly
      rw [hexec (by rw [hst]; nofun) fun _ => State.intervalMessageA_of_not (s := handed s n ch) _ (.inr (.inl hst)),
        State.intervalMessageB_passes hpass]
    · have hperiod : (s.ctx n).config.periodMode = false := by
        refine Bool.eq_false_iff.mpr fun hp => ?_
        obtain ⟨hshared, hsense⟩ := (periodMode_iff _).mp hp
        obtain h | h := hA
        · exact h (hshared.trans hB)
        · exact absurd ((hsense ▸ htakes).symm.trans h) nofun
      rw [hstarting hst hA, State.intervalMessageB_holds (s := handed s n ch) (m := i.message x) hst htakes hperiod hfloor]
      rfl
    · have hpass : ((handed s n ch).ctx n).PassesStop (i.message x).stamp := by
        rw [Context.PassesStop, handed_ctx, hst]
        exact hfloor
      rw [hstarting hst hA, State.intervalMessageB_passes hpass]

/-! ### A start and a stop that cross -/

/-- The start sets aside what the held-B slot held, whatever it was (R115). -/
theorem State.intervalRecordStart_held (s : State) (n : Fin 16) (m : HeldStop) (h : Option HeldStop) :
    (s.setCtx n { s.ctx n with live := { (s.ctx n).live with heldStop := h } }).intervalRecordStart n m = s.intervalRecordStart n m := by
  unfold State.intervalRecordStart
  simp only [State.modCtx, State.deadlineFrom, State.ctx_setCtx_self, State.setCtx_setCtx]
  by_cases hb : (s.ctx n).live.batchOpen = true
  · rw [if_pos hb, if_pos hb]
  · rw [if_neg hb, if_neg hb]
    rfl

/-- A start and a stop of one interval on their way to a context that waits for a start with nothing held. -/
structure Crossing (s : State) (n : Fin 16) (a b : Message) : Prop where
  kind : (s.ctx n).config.kind = .interval
  state : (s.ctx n).state = .starting
  channels : (s.ctx n).config.channelA ≠ (s.ctx n).config.channelB
  heldStop : (s.ctx n).live.heldStop = none
  heldNotice : (s.ctx n).live.heldNotice = none
  takesA : (s.ctx n).config.senseA.takes a.sense = true
  takesB : (s.ctx n).config.senseB.takes b.sense = true
  floorA : laterStamp a.stamp (s.ctx n).live.floor = true
  floorB : laterStamp b.stamp (s.ctx n).live.floor = true
  later : laterStamp b.stamp a.stamp = true
  limit : atLeastStamp b.stamp (a.stamp + BitVec.ofNat 60 (4096 * (s.ctx n).config.stopDelay.toNat)) = true

section
variable {s : State} {n : Fin 16} {a b : Message}

theorem Crossing.periodMode (h : Crossing s n a b) : (s.ctx n).config.periodMode = false :=
  Bool.eq_false_iff.mpr fun hp => h.channels ((periodMode_iff _).mp hp).1

/-- The stop that comes first is held and used at the start (R112, R115 case 2). -/
theorem Crossing.stop_first (h : Crossing s n a b) :
    (s.takeMessage n b .b).takeMessage n a .a =
      (s.intervalRecordStart n ⟨a.stamp, a.generation, a.unlocked⟩).intervalStop n ⟨b.stamp, b.generation, b.unlocked⟩ := by
  let u := s.setCtx n { s.ctx n with live := { (s.ctx n).live with heldStop := some ⟨b.stamp, b.generation, b.unlocked⟩ } }
  have hctx : u.ctx n = { s.ctx n with live := { (s.ctx n).live with heldStop := some ⟨b.stamp, b.generation, b.unlocked⟩ } } :=
    s.ctx_setCtx_self n _
  have hheld : s.takeMessage n b .b = u :=
    (State.takeMessage_b_interval h.kind b).trans (State.intervalMessageB_holds h.state h.takesB h.periodMode h.floorB)
  have hdrops (k : Tick) : ¬(u.ctx n).HeldDrops a.stamp k := by
    rw [hctx]
    exact fun hd => nomatch h.heldNotice.symm.trans hd.2.1
  have hstops : (u.ctx n).HeldStops a.stamp ⟨b.stamp, b.generation, b.unlocked⟩ := by
    rw [hctx]
    exact ⟨fun hp => h.channels hp.1, rfl, h.later, h.limit⟩
  rw [hheld, State.takeMessage_a_interval (by rw [hctx]; exact h.kind),
    State.intervalMessageA_starts (by rw [hctx]; exact h.state) (by rw [hctx]; exact h.takesA) (by rw [hctx]; exact h.floorA),
    State.intervalStart_stops (m := ⟨a.stamp, a.generation, a.unlocked⟩) hdrops hstops, State.intervalRecordStart_held]

/-- The start that comes first is recorded, and the stop ends its interval (R112, R116). -/
theorem Crossing.start_first (h : Crossing s n a b) :
    (s.takeMessage n a .a).takeMessage n b .b =
      (s.intervalRecordStart n ⟨a.stamp, a.generation, a.unlocked⟩).intervalStop n ⟨b.stamp, b.generation, b.unlocked⟩ := by
  have hrecorded : s.takeMessage n a .a = s.intervalRecordStart n ⟨a.stamp, a.generation, a.unlocked⟩ := by
    rw [State.takeMessage_a_interval h.kind, State.intervalMessageA_starts h.state h.takesA h.floorA]
    exact State.intervalStart_recorded (m := ⟨a.stamp, a.generation, a.unlocked⟩) (fun k hd => nomatch h.heldNotice.symm.trans hd.2.1)
      fun _ hs => nomatch h.heldStop.symm.trans hs.2.1
  have hlimit := s.intervalRecordStart_stopLimit n ⟨a.stamp, a.generation, a.unlocked⟩
  obtain ⟨l, heq, hstart, -⟩ := State.intervalRecordStart_eq s n ⟨a.stamp, a.generation, a.unlocked⟩
  have hctx : (s.intervalRecordStart n ⟨a.stamp, a.generation, a.unlocked⟩).ctx n = { s.ctx n with state := .gating, live := l } := by
    rw [heq, State.ctx_setCtx_self]
  rw [hrecorded, State.takeMessage_b_interval (by rw [hctx]; exact h.kind)]
  exact State.intervalMessageB_stops (by rw [hctx]) (by rw [hctx]; exact h.takesB)
    (by rw [hctx]; exact (congrArg (laterStamp _) hstart).trans h.later) (by rw [hlimit]; exact h.limit)

end

/-- Settles O48: in either order the stop ends the interval that the start recorded. -/
theorem crossingItemsGiveOneInterval : Obligations.CrossingItemsGiveOneInterval := by
  intro s n a b hk hst hchannels hstop hnotice htakesA htakesB hfloorA hfloorB hlater hlimit
  have hcrossing : Crossing s n a b := ⟨hk, hst, hchannels, hstop, hnotice, htakesA, htakesB, hfloorA, hfloorB, hlater, hlimit⟩
  rw [hcrossing.stop_first, hcrossing.start_first]
  obtain ⟨-, -, l, hentered, hunfinished, hclosed, -, hwaits⟩ :=
    State.intervalStop_crossed hcrossing.periodMode ⟨a.stamp, a.generation, a.unlocked⟩ ⟨b.stamp, b.generation, b.unlocked⟩
  rw [hentered.batchCount, hentered.batchSize] at hunfinished hclosed hwaits
  refine ⟨rfl, fun hne => ?_, fun hfull => ?_⟩
  · obtain ⟨⟨hseq, -, -, hquotient, -⟩, hbatch⟩ := hunfinished hne
    obtain ⟨hstate, hfloor, hentry, -⟩ := hwaits (.inl hne)
    exact ⟨hstate, hfloor, hentry, hbatch.batchOpen, hbatch.batchCount, hbatch.batchSum, hbatch.batchMin, hbatch.batchMax,
      hbatch.firstStart, hbatch.batchSize, hseq, hquotient⟩
  · obtain ⟨⟨hseq, hposition, hopen, -⟩, hpassed, hskipped⟩ := hclosed hfull
    refine ⟨hseq, nextPosition_of_eq hposition, hopen, fun hpass => ⟨l.flags, ?_⟩, fun hpass => ?_⟩
    · have hhanded := hpassed ((passes_iff _).mp hpass)
      rw [hentered.batchSum, hentered.batchMin, hentered.batchMax, hentered.firstStart] at hhanded
      exact hhanded
    · obtain ⟨hslot, hquotient, -⟩ := hskipped (Bool.eq_false_iff.mpr (mt (passes_iff _).mpr hpass))
      exact ⟨hslot, hquotient⟩

end Sys2Proof.Machine
end

section
/-! The quotient unit, its roundings, and the bytes of the frames (spec/08_quotient_unit_and_result_posting.md, sections 8.1 to 8.5, and
spec/10_command_port.md, sections 10.1 and 10.7). -/

namespace Sys2Proof.Machine

open Sys2Proof.Safety

/-! ### The roundings -/

theorem quotientHalfUp_spec (a : Nat) {b : Nat} (hb : 0 < b) :
    2 * b * quotientHalfUp a b ≤ 2 * a + b ∧ 2 * a + b < 2 * b * (quotientHalfUp a b + 1) :=
  roundHalfUp_spec a hb

theorem quotientHalfUp_le {a b q : Nat} (hb : 0 < b) (h : a ≤ q * b) : quotientHalfUp a b ≤ q :=
  Nat.le_of_lt_succ ((Nat.div_lt_iff_lt_mul (by omega)).mpr (by rw [Nat.succ_mul]; nlinarith))

theorem le_quotientHalfUp {a b q : Nat} (hb : 0 < b) (h : q * b ≤ a) : q ≤ quotientHalfUp a b :=
  (Nat.le_div_iff_mul_le (by omega)).mpr (by nlinarith)

theorem frequencySaturates_iff (e : EdgeCount) (span : Stamp) :
    frequencySaturates e span = true ↔ (2 ^ 64 - 1) * span.toNat < e.toNat * 1024000000000000000000 := by
  exact decide_eq_true_iff

/-- A frequency that saturates is the greatest value (R142). -/
theorem frequencyOf_of_saturates {e : EdgeCount} {span : Stamp} (hspan : span ≠ 0) (h : frequencySaturates e span = true) :
    (frequencyOf e span).toNat = 2 ^ 64 - 1 := by
  rw [frequencyOf, if_neg hspan, if_pos h]
  rfl

/-- A frequency that does not saturate is the rounded quotient (R142). -/
theorem frequencyOf_of_fits {e : EdgeCount} {span : Stamp} (hspan : 0 < span.toNat)
    (h : e.toNat * 1024000000000000000000 ≤ (2 ^ 64 - 1) * span.toNat) :
    (frequencyOf e span).toNat = quotientHalfUp (e.toNat * 1024000000000000000000) span.toNat := by
  have hne : span ≠ 0 := fun h0 => by rw [h0] at hspan; exact absurd hspan (by decide)
  have hfits : ¬frequencySaturates e span = true := fun hs => absurd ((frequencySaturates_iff e span).mp hs) (by omega)
  rw [frequencyOf, if_neg hne, if_neg hfits, BitVec.toNat_ofNat, Config.frequencyScale]
  exact Nat.mod_eq_of_lt (by have := quotientHalfUp_le hspan h; omega)

/-- The mean of intervals none of which is longer than `hi` (R143). -/
theorem meanOf_of_le {sum : BitVec 80} {count : BitVec 16} {hi : Stamp} (hcount : 0 < count.toNat)
    (h : sum.toNat ≤ count.toNat * hi.toNat) : (meanOf sum count).toNat = quotientHalfUp sum.toNat count.toNat := by
  have hne : count ≠ 0 := fun h0 => by rw [h0] at hcount; exact absurd hcount (by decide)
  have hle : quotientHalfUp sum.toNat count.toNat ≤ hi.toNat := quotientHalfUp_le hcount (by rw [mul_comm]; exact h)
  rw [meanOf, if_neg hne, BitVec.toNat_ofNat]
  exact Nat.mod_eq_of_lt (by have := hi.isLt; omega)

/-- Settles O52: both quotients are `quotientHalfUp`, which rounds half up and stays within the bounds of the exact quotient. -/
theorem quotientsRoundHalfUp : Obligations.QuotientsRoundHalfUp := by
  refine ⟨fun e span hspan => ⟨fun h => ?_, fun h => ?_⟩, fun sum count lo hi hcount hlo hhi => ?_⟩
  · exact frequencyOf_of_saturates hspan ((frequencySaturates_iff e span).mpr h)
  · have hpos : 0 < span.toNat := Nat.pos_of_ne_zero fun h0 => hspan (BitVec.eq_of_toNat_eq h0)
    rw [frequencyOf_of_fits hpos h]
    exact quotientHalfUp_spec _ hpos
  · have hpos : 0 < count.toNat := Nat.pos_of_ne_zero fun h0 => hcount (BitVec.eq_of_toNat_eq h0)
    rw [meanOf_of_le hpos hhi]
    obtain ⟨hlower, hupper⟩ := quotientHalfUp_spec sum.toNat hpos
    exact ⟨hlower, hupper, le_quotientHalfUp hpos (by rw [mul_comm]; exact hlo), quotientHalfUp_le hpos (by rw [mul_comm]; exact hhi)⟩

/-! ### The unit -/

/-- The part with the unit idle. -/
def State.unitEmptied (s : State) : State := { s with quotient := { s.quotient with work := none } }

@[simp] theorem State.unitEmptied_ctx (s : State) (n : Fin 16) : s.unitEmptied.ctx n = s.ctx n := rfl

theorem State.unitEmptied_gatePending (s : State) (n : Fin 16) : s.unitEmptied.gatePending n = (s.ctx n).slot.isSome :=
  Bool.or_false _

theorem exec_quotientComplete {s : State} {w : Work} (hw : s.quotient.work = some w) :
    exec .quotientComplete s =
      .next (if w.void then s.unitEmptied
        else s.unitEmptied.post w.context w.gate.figures.computed w.gate.seq { w.gate.flags with sat := w.gate.figures.saturates }
          w.gate.figures.primary) := by
  change execQuotientComplete s = _
  rw [execQuotientComplete, hw]
  rfl

/-- What a posting by the emptied unit touches is the record and the cause of its context. -/
theorem State.post_unitEmptied_only (s : State) (n : Fin 16) (f : Figures) (seq : BitVec 16) (flags : Flags) (p : Nat) :
    OnlyContext n s (s.unitEmptied.post n f seq flags p) := by
  obtain ⟨hframe, hthreshold, hothers, hsources⟩ := (ContextOnly.post s.unitEmptied n f seq flags p).onlyContext
  exact ⟨congrArg (fun u => { u with quotient := s.quotient }) hframe, hthreshold, hothers, hsources⟩

/-- Settles O51: the taking unfolds, and a completion is a posting by the emptied unit, which settles the context. -/
theorem quotientUnitTakesAndPosts : Obligations.QuotientUnitTakesAndPosts := by
  refine ⟨fun s n rest g hw hq hslot => ?_, fun s w hw hvoid => ?_, fun s w hw hvoid => ?_⟩
  · change execQuotientTake s = _
    rw [execQuotientTake, hw, hq]
    dsimp only
    rw [hslot]
    rfl
  · rw [exec_quotientComplete hw, if_pos hvoid]
    rfl
  · have hctx := s.unitEmptied.post_ctx w.context w.gate.figures.computed w.gate.seq
      { w.gate.flags with sat := w.gate.figures.saturates } w.gate.figures.primary
    rw [State.unitEmptied_gatePending, State.unitEmptied_ctx] at hctx
    refine ⟨_, w.gate.figures.computed, w.gate.figures.primary, w.gate.figures.saturates, ?_,
      s.post_unitEmptied_only w.context _ _ _ _, State.post_quotient _ _ _ _ _ _, State.post_posted s.unitEmptied _ _ _ _ _,
      fun e span start hf => ?_, fun sum count lo hi first hf => ?_, ?_⟩
    · rw [exec_quotientComplete hw, hvoid]
      rfl
    · rw [hf]
      exact ⟨rfl, rfl, frequencySaturates_iff e span⟩
    · rw [hf]
      exact ⟨rfl, rfl, rfl⟩
    · rw [hctx]
      refine ⟨rfl, rfl, rfl, rfl, rfl, rfl, fun hstate hslot => if_pos ⟨hstate, by rw [hslot]; rfl⟩, fun h => if_neg ?_⟩
      rwa [Option.isSome_eq_false_iff, Option.isNone_iff_eq_none]

end Sys2Proof.Machine
end

section
/-! The bytes of a frame and the command they spell (R164, R166). -/

namespace Sys2Proof

/-! ### The fields of the parameters -/

theorem fieldAt_cons (b : Byte) (p : List Byte) (o n : Nat) : fieldAt (b :: p) (o + 1) n = fieldAt p o n := rfl

/-- A word at the front, in a field wide enough for it, is spelled by the field. -/
theorem word_of_fieldAt {w n : Nat} (h : w ≤ 8 * n) (v : BitVec w) (p : List Byte) :
    BitVec.ofNat w (fieldAt (bytesOf n v.toNat ++ p) 0 n) = v := by
  have hlt : v.toNat < 256 ^ n := by
    rw [show 256 = 2 ^ 8 from rfl, ← pow_mul]
    exact v.isLt.trans_le (Nat.pow_le_pow_right (by decide) h)
  rw [fieldAt, List.drop_zero, List.take_left' (bytesOf_length n _), valueOf_bytesOf_of_lt hlt, BitVec.ofNat_toNat, BitVec.setWidth_eq]

theorem word_of_fieldAt_last {w n : Nat} (h : w ≤ 8 * n) (v : BitVec w) : BitVec.ofNat w (fieldAt (bytesOf n v.toNat) 0 n) = v := by
  rw [← List.append_nil (bytesOf n v.toNat)]
  exact word_of_fieldAt h v []

theorem byte_of_fieldAt (b : Byte) (p : List Byte) : BitVec.ofNat 8 (fieldAt (b :: p) 0 1) = b := by
  simp [fieldAt, valueOf]

/-- A field behind a word is the field of what follows the word. -/
theorem fieldAt_bytesOf {k o : Nat} (h : k ≤ o) (v : Nat) (p : List Byte) (n : Nat) :
    fieldAt (bytesOf k v ++ p) o n = fieldAt p (o - k) n := by
  rw [fieldAt, fieldAt, List.drop_append, bytesOf_length, List.drop_of_length_le (by rwa [bytesOf_length]), List.nil_append]

theorem configBlockAt_configBlockBytes (n : Byte) (b : ConfigBlock) : configBlockAt (n :: configBlockBytes b) 1 = b := by
  simp [configBlockAt, configBlockBytes, List.append_assoc, fieldAt_cons, byte_of_fieldAt, fieldAt_bytesOf, word_of_fieldAt,
    word_of_fieldAt_last]

theorem modifyBlockAt_modifyBlockBytes (n : Byte) (sel : BitVec 16) (m : ModifyBlock) :
    modifyBlockAt (n :: (bytesOf 2 sel.toNat ++ modifyBlockBytes m)) 3 = m := by
  simp [modifyBlockAt, modifyBlockBytes, List.append_assoc, fieldAt_cons, byte_of_fieldAt, fieldAt_bytesOf, word_of_fieldAt,
    word_of_fieldAt_last]

/-! ### The frames -/

/-- The bytes of a frame spell a command: its code with its parameters, no byte more. -/
def Spells (bytes : List Byte) (c : Instr) : Prop :=
  ∃ code params, bytes = code :: params ∧ paramCount code = some params.length ∧ commandOf code params = c

theorem Spells.of_params {code : Byte} {params : List Byte} {c : Instr} (hcount : paramCount code = some params.length)
    (hcommand : commandOf code params = c) : Spells (code :: params) c := ⟨code, params, rfl, hcount, hcommand⟩

theorem Spells.decodes {bytes : List Byte} {c : Instr} (h : Spells bytes c) (more : List Byte) : decodeFrame (bytes ++ more) = some c := by
  obtain ⟨code, params, rfl, hcount, hcommand⟩ := h
  have hlength : ¬(params ++ more).length < params.length := by rw [List.length_append]; omega
  simp only [List.cons_append, decodeFrame, hcount]
  rw [if_neg hlength, List.take_left, hcommand]

theorem Spells.cut {bytes : List Byte} {c : Instr} (h : Spells bytes c) {k : Nat} (hk : k < bytes.length) :
    decodeFrame (bytes.take k) = none := by
  obtain ⟨code, params, rfl, hcount, -⟩ := h
  cases k with
  | zero => rfl
  | succ k =>
    have hlength : (params.take k).length < params.length := by
      rw [List.length_take]
      rw [List.length_cons] at hk
      omega
    simp only [List.take_succ_cons, decodeFrame, hcount]
    exact if_pos hlength

/-- The frame of every command of the frame table spells it (section 10.7). -/
theorem spells_of_encodeFrame {c : Instr} {bytes : List Byte} (hc : ∀ code, c ≠ .unknownCommand code) (h : encodeFrame c = some bytes) :
    Spells bytes c := by
  cases c with
  | unknownCommand code => exact absurd rfl (hc code)
  | defineContext n b =>
    cases h
    refine .of_params (by simp [paramCount, configBlockBytes]) ?_
    simp [commandOf, byteAt, byte_of_fieldAt, configBlockAt_configBlockBytes]
  | modifyContext n sel m =>
    cases h
    refine .of_params (by simp [paramCount, modifyBlockBytes]) ?_
    simp [commandOf, byteAt, byte_of_fieldAt, fieldAt_cons, word_of_fieldAt, modifyBlockAt_modifyBlockBytes]
  | _ =>
    cases h <;> refine .of_params (by simp [paramCount]) ?_ <;>
      simp [commandOf, byteAt, byte_of_fieldAt, fieldAt_cons, word_of_fieldAt_last]

/-- Settles O55: the frame of a command of the table spells it, and an unknown code executes at its own byte. -/
theorem framesDecodeToTheirCommands : Obligations.FramesDecodeToTheirCommands := by
  intro c bytes more hc henc
  by_cases hu : ∃ code, c = .unknownCommand code
  · obtain ⟨code, rfl⟩ := hu
    cases henc
    refine ⟨Machine.decodeFrame_of_unknown (Option.isNone_iff_eq_none.mp hc) more, fun k hk => ?_⟩
    rw [Nat.lt_one_iff.mp hk]
    rfl
  · have hspells := spells_of_encodeFrame (fun code h => hu ⟨code, h⟩) henc
    exact ⟨hspells.decodes more, fun _ => hspells.cut⟩

end Sys2Proof
end
